-- ==== Sys2Proof/Word.lean ====
section
/-! DEFINITION. The word types of `spec/00_scope.md` R9 and R10: every value is unsigned, bit 0 is the
least significant bit. -/

namespace Sys2Proof

/-- A register, an offset, a written or read value (`REG_WIDTH` = 32, R9). -/
abbrev Word := BitVec 32

/-- A value of the external scalar source (`EXT_WIDTH` = 32, R9). -/
abbrev ExtWord := BitVec 32

/-- A sample, a register of the companion device, a byte of its bus, a kind code. -/
abbrev Byte := BitVec 8

/-- The 72-bit operation word `kind ‖ offset ‖ wdata` (R71). -/
abbrev OpWord := BitVec 72

end Sys2Proof
end

