-- ==== Sys2Proof/Config.lean ====
section
/-! DEFINITION. The parameters of `spec/00_scope.md` R9 that the spec leaves OPEN, as constants with no
body: nothing can be proved about a particular value of one. The parameters the spec does fix have one
definition each: the widths in `Word.lean`, the register file's in `Decode.lean`, `OOR_READ_VALUE` and the
companion device's in `Machine/Operands.lean`. -/

namespace Sys2Proof

/-- Byte order of the bus (`BUS_ENDIAN`, R9, R55). The spec names little-endian, as its default, and no other
value; that the parameter is one of these two orders is a DESIGN CHOICE of the model (log entry 21). -/
inductive Endian where
  | little
  | big
  deriving DecidableEq, Repr, Inhabited

/-- What a bus master observes for an access the boundary rejects (`REJECT_RESPONSE`, R9). The spec
names a bus error, a value of zero and nothing as its examples (R53). -/
inductive RejectResponse where
  | busError
  | zeroValue
  | nothing
  | other
  deriving DecidableEq, Repr, Inhabited

/-- The platform's parameters (R9, R52, R203). No rule of the block reads one (R52, R53, R235). -/
structure Platform where
  /-- `MMIO_BASE`: address of offset 0x00 in the bus master's address space. The spec gives no range; any
  natural number, aligned or not, is a DESIGN CHOICE of the model (log entry 21). -/
  mmioBase : Nat
  /-- How far `REGION_SIZE` exceeds its least value, the bytes of the registers. -/
  regionExtra : Nat
  /-- `IRQ_LINE`: the input of the interrupt controller that `irq` drives. The spec gives no range; that the
  inputs are numbered from 0 is a DESIGN CHOICE of the model (log entry 21). -/
  irqLine : Nat
  /-- `BUS_ENDIAN`: read by the byte view of the window only. -/
  busEndian : Endian
  /-- `REJECT_RESPONSE`. -/
  rejectResponse : RejectResponse
  /-- `SAMPLE_FREQ`: ticks per second. The spec gives no range; that it is a whole number, 0 included, is a
  DESIGN CHOICE of the model (log entry 21). -/
  sampleFreq : Nat
  deriving DecidableEq, Repr, Inhabited

/-- The open platform parameters (R9). Log entry 6. -/
opaque Config.platform : Platform

/-- `TICK_PERIOD` less one: an open natural number. Log entry 6. -/
opaque Config.tickPeriodPred : Nat

/-- `TICK_PERIOD`, timer clocks between two ticks: OPEN, an integer at least 1 (R9). -/
def Config.tickPeriod : Nat := Config.tickPeriodPred + 1

/-- The external scalar source before the first `EXTSET`: it is not the block's and reset does not
touch it (R30, R32), so it is a free value; `none` is an unavailable source. Log entry 5. -/
opaque Config.extAtReset : Option ExtWord

end Sys2Proof
end

