-- ==== Sys2Proof/Syntax.lean ====
section
/-! DEFINITION. The operations of `spec/30_encoding.md` as syntax: one constructor of `Instr` per row of
`spec/opcode_table.json`, the snapshot operand of `RESTORE`, the mnemonics and the names of
the pseudo-operations of R79. Their expansions and the textual forms of R78 stand in `Decode.lean`, after
the constants they are computed from. -/

namespace Sys2Proof

/-- A snapshot of the sensor (`spec/43_system_ops.md` R135): what `SAVE` yields and `RESTORE` takes.
It travels beside the operation word, not in it (R83). -/
structure Snapshot where
  /-- CTRL -/
  x0 : Word
  /-- STATUS -/
  x1 : Word
  /-- DATA -/
  x2 : Word
  /-- whether the periodic timer was running -/
  timerRunning : Bool
  /-- the timer's remaining-period counter -/
  timerCount : Nat
  deriving DecidableEq, Repr

/-- The decoded operations (R70, R76). `TRS` is the TimedRegisterSensor, `ARS` its companion device,
the AddressedRegisterSlave. -/
inductive Instr where
  /-- `RD 0x00` (R91) -/
  | rdCtrl
  /-- `RD 0x04` (R92) -/
  | rdStatus
  /-- `RD 0x08` (R93) -/
  | rdData
  /-- `RD offset`, any other offset (R94) -/
  | rdInvalid (offset : Word)
  /-- `WR 0x00, wdata` (R101) -/
  | wrCtrl (wdata : Word)
  /-- `WR 0x04, wdata` (R104) -/
  | wrStatus (wdata : Word)
  /-- `WR 0x08, wdata` (R105) -/
  | wrData (wdata : Word)
  /-- `WR offset, wdata`, any other offset (R106) -/
  | wrInvalid (offset wdata : Word)
  /-- `onTimerTick()` (R116) -/
  | tick
  /-- one timer clock elapses (R118) -/
  | timerclk
  /-- `reset()` of the TRS (R222) -/
  | reset
  /-- instantiation of the TRS (R220) -/
  | poweron
  /-- state save (R136) -/
  | save
  /-- state restore (R137) -/
  | restore (snap : Snapshot)
  /-- the external writer sets the scalar source (R139) -/
  | extset (v : ExtWord)
  /-- ARS `onEvent(START_RECEIVE)` (R160) -/
  | aEventStartReceive
  /-- ARS `onEvent(k)` for every other event code (R161) -/
  | aEventOther (code : Word)
  /-- ARS `onTransmitRequest()` (R162) -/
  | aTx
  /-- ARS `onReceiveByte(b)` (R163) -/
  | aRx (b : Byte)
  /-- ARS `reset()` (R165) -/
  | aReset
  /-- instantiation of the ARS (R164) -/
  | aPoweron
  deriving DecidableEq, Repr

/-- The row of `spec/opcode_table.json` a constructor stands for (R76). -/
def Instr.mnemonic : Instr → String
  | .rdCtrl => "RD.CTRL"
  | .rdStatus => "RD.STATUS"
  | .rdData => "RD.DATA"
  | .rdInvalid _ => "RD.INVALID"
  | .wrCtrl _ => "WR.CTRL"
  | .wrStatus _ => "WR.STATUS"
  | .wrData _ => "WR.DATA"
  | .wrInvalid _ _ => "WR.INVALID"
  | .tick => "TICK"
  | .timerclk => "TIMERCLK"
  | .reset => "RESET"
  | .poweron => "POWERON"
  | .save => "SAVE"
  | .restore _ => "RESTORE"
  | .extset _ => "EXTSET"
  | .aEventStartReceive => "A.EVENT.START_RECEIVE"
  | .aEventOther _ => "A.EVENT.OTHER"
  | .aTx => "A.TX"
  | .aRx _ => "A.RX"
  | .aReset => "A.RESET"
  | .aPoweron => "A.POWERON"

/-- The device an operation acts on (the table's `device`); `EXTSET` acts on the source both read. -/
inductive Device where
  | trs
  | ars
  | source
  deriving DecidableEq, Repr

/-- Whose state an operation acts on (R70, R139, R150). -/
def Instr.device : Instr → Device
  | .rdCtrl | .rdStatus | .rdData | .rdInvalid _ => .trs
  | .wrCtrl _ | .wrStatus _ | .wrData _ | .wrInvalid _ _ => .trs
  | .tick | .timerclk | .reset | .poweron | .save | .restore _ => .trs
  | .extset _ => .source
  | .aEventStartReceive | .aEventOther _ | .aTx | .aRx _ | .aReset | .aPoweron => .ars

/-- The four agents of `spec/00_scope.md` R8 and the companion device's bus transport (R158). -/
inductive Agent where
  | busMaster
  | timer
  | hostFramework
  | externalWriter
  | busTransport
  deriving DecidableEq, Repr

/-- Who performs an operation (R8, R70, R158). -/
def Instr.agent : Instr → Agent
  | .rdCtrl | .rdStatus | .rdData | .rdInvalid _ => .busMaster
  | .wrCtrl _ | .wrStatus _ | .wrData _ | .wrInvalid _ _ => .busMaster
  | .tick | .timerclk => .timer
  | .reset | .poweron | .save | .restore _ => .hostFramework
  | .extset _ => .externalWriter
  | .aEventStartReceive | .aEventOther _ | .aTx | .aRx _ => .busTransport
  | .aReset | .aPoweron => .hostFramework

/-- The pseudo-operations (R79). -/
inductive PseudoOp where
  | enable
  | enableIrq
  | disable
  | ticks (n : Nat)
  | wait (n : Nat)
  | kick
  deriving DecidableEq, Repr

end Sys2Proof
end

