-- ==== Sys2Proof/Decode.lean ====
section
/-! DEFINITION. `spec/30_encoding.md`: the operation word, the kind codes, the decode of the offset and of
the written value, the opcode table with its priorities, the decoder, after it the encoder, and the
textual forms and expansions of R78 and R79. The register file's parameters of R9 (which R7 calls unaudited)
have one definition each here, and every mask, range, table row, text and expansion is computed from
them. -/

namespace Sys2Proof

/-! ### The register file's parameters (R9) -/

/-- The width of a value's type. -/
def bitWidth {n : Nat} (_ : BitVec n) : Nat := n

/-- `REG_WIDTH`, in bits: that of the type `Word`, which is its one definition. -/
def regWidth : Nat := bitWidth (0 : Word)
/-- `EXT_WIDTH`, in bits: that of the type `ExtWord`, which is its one definition. -/
def extWidth : Nat := bitWidth (0 : ExtWord)
/-- `NUM_REGS` -/
def numRegs : Nat := 3
/-- `REG_STRIDE`, in bytes -/
def regStride : Nat := 4
/-- `SAMPLE_WIDTH`, in bits -/
def sampleWidth : Nat := 8
/-- `CTRL_EN_BIT` -/
def ctrlEnBit : Nat := 0
/-- `CTRL_IEN_BIT` -/
def ctrlIenBit : Nat := 1
/-- `STATUS_IFG_BIT` -/
def statusIfgBit : Nat := 1

/-! ### The operation word (R71) -/

/-- `kind`, bits 71:64. -/
def kindOf (w : OpWord) : Byte := w.extractLsb' 64 8

/-- `offset`, bits 63:32. -/
def offsetOf (w : OpWord) : Word := w.extractLsb' 32 32

/-- `wdata`, bits 31:0. -/
def wdataOf (w : OpWord) : Word := w.extractLsb' 0 32

/-- The word `kind ‖ offset ‖ wdata`. -/
def pack (kind : Byte) (offset wdata : Word) : OpWord := kind ++ offset ++ wdata

/-! ### Kind codes (R72) -/

/-- The fourteen kinds of operation word (R72). -/
inductive OpKind where
  | rd
  | wr
  | tick
  | timerclk
  | reset
  | poweron
  | save
  | restore
  | extset
  | aEvent
  | aTx
  | aRx
  | aReset
  | aPoweron
  deriving DecidableEq, Repr

/-- The code of a kind (R72). -/
def kindCode : OpKind → Byte
  | .rd => 0x00
  | .wr => 0x01
  | .tick => 0x02
  | .timerclk => 0x03
  | .reset => 0x04
  | .poweron => 0x05
  | .save => 0x06
  | .restore => 0x07
  | .extset => 0x08
  | .aEvent => 0x10
  | .aTx => 0x11
  | .aRx => 0x12
  | .aReset => 0x13
  | .aPoweron => 0x14

/-- Every kind, in the order of R72. -/
def allKinds : List OpKind :=
  [.rd, .wr, .tick, .timerclk, .reset, .poweron, .save, .restore, .extset,
   .aEvent, .aTx, .aRx, .aReset, .aPoweron]

/-- The kind a code names; every other value is reserved (R72). -/
def kindOfCode (c : Byte) : Option OpKind := allKinds.find? (fun k => kindCode k == c)

/-! ### Offsets (R9, R73) -/

/-- `OFF_CTRL` -/
def offCtrl : Word := 0x00000000#32
/-- `OFF_STATUS` -/
def offStatus : Word := 0x00000004#32
/-- `OFF_DATA` -/
def offData : Word := 0x00000008#32

/-- What an offset selects (R73): a register or INVALID. -/
inductive RegSel where
  | ctrl
  | status
  | data
  | invalid
  deriving DecidableEq, Repr

/-- `decode_reg` (R73): a comparison on all 32 bits, so nothing aliases. -/
def decodeReg (offset : Word) : RegSel :=
  if offset = offCtrl then .ctrl
  else if offset = offStatus then .status
  else if offset = offData then .data
  else .invalid

/-! ### Fields of the registers and of the written value (R11, R74) -/

/-- The value with one bit set. -/
def bitMask (i : Nat) : Word := 1 <<< i

/-- CTRL.EN of a value of CTRL (R23). -/
def enOf (ctrl : Word) : Bool := ctrl.getLsbD ctrlEnBit

/-- CTRL.IEN of a value of CTRL (R23). -/
def ienOf (ctrl : Word) : Bool := ctrl.getLsbD ctrlIenBit

/-- STATUS.IFG of a value of STATUS (R24). -/
def ifgOf (status : Word) : Bool := status.getLsbD statusIfgBit

/-- DATA.SAMPLE of a value of DATA (R26). -/
def sampleOf (data : Word) : BitVec sampleWidth := data.extractLsb' 0 sampleWidth

/-- STATUS with IFG alone set (R24). -/
def ifgMask : Word := bitMask statusIfgBit

/-- The write mask of CTRL, its two fields (R74). -/
def ctrlWriteMask : Word := bitMask ctrlEnBit ||| bitMask ctrlIenBit

/-- The value a write stores in CTRL, `zext_32(wdata[1:0])` (R74). -/
def ctrlStored (wdata : Word) : Word := wdata &&& ctrlWriteMask

/-! ### The snapshot beside the word (R83, R135) -/

/-- `1 <= timer_count <= TICK_PERIOD` (R135). A count of 1 is in range whatever the open period is, which
is at least 1 (R9); it is looked at first so that this case is decided without the period's value. -/
def countInPeriod (n : Nat) : Bool := n == 1 || decide (1 ≤ n ∧ n ≤ Config.tickPeriod)

/-- The six conditions of R135. -/
def Snapshot.wellFormed (n : Snapshot) : Bool :=
  decide (n.x0.toNat ≤ ctrlWriteMask.toNat) && (n.x1 == 0#32 || n.x1 == ifgMask)
    && decide (n.x2.toNat < 2 ^ sampleWidth)
    && (n.x1 != 0#32 || n.x2 == 0#32) && n.timerRunning == enOf n.x0
    && countInPeriod n.timerCount

/-- A snapshot that is well-formed for every `TICK_PERIOD`: a stopped block with one clock left. It
stands beside the word where the host gives a word alone (log entry 8). -/
def idleSnapshot : Snapshot := ⟨0#32, 0#32, 0#32, false, 1⟩

/-! ### Event codes of the companion device (R82) -/

/-- `START_RECEIVE` -/
def eventStartReceive : Word := 0#32
/-- `START_TRANSMIT` -/
def eventStartTransmit : Word := 1#32
/-- `STOP` -/
def eventStop : Word := 2#32

/-! ### The decoder (R76, R77) -/

/-- Why a word, with what stands beside it, is no operation. -/
inductive DecodeError where
  /-- a kind that is not in R72: the word is invalid (R77 item 4) -/
  | reservedKind (kind : Byte)
  /-- a `RESTORE` word with no snapshot beside it (R83; log entry 8) -/
  | missingSnapshot
  deriving DecidableEq, Repr

/-- The form of `RD` its offset selects (R90). -/
def decodeRead (offset : Word) : Instr :=
  match decodeReg offset with
  | .ctrl => .rdCtrl
  | .status => .rdStatus
  | .data => .rdData
  | .invalid => .rdInvalid offset

/-- The form of `WR` its offset selects (R100). -/
def decodeWrite (offset wdata : Word) : Instr :=
  match decodeReg offset with
  | .ctrl => .wrCtrl wdata
  | .status => .wrStatus wdata
  | .data => .wrData wdata
  | .invalid => .wrInvalid offset wdata

/-- The form of `A.EVENT` its event code selects (R82). -/
def decodeEvent (code : Word) : Instr :=
  if code = eventStartReceive then .aEventStartReceive else .aEventOther code

/-- The decoder: total on every 72-bit word and whatever stands beside it. `kind` first, then for kinds
0x00, 0x01 and 0x10 the offset; fields a kind does not use are ignored (R71, R76). -/
def decode (w : OpWord) (beside : Option Snapshot) : Except DecodeError Instr :=
  match kindOfCode (kindOf w) with
  | some .rd => .ok (decodeRead (offsetOf w))
  | some .wr => .ok (decodeWrite (offsetOf w) (wdataOf w))
  | some .tick => .ok .tick
  | some .timerclk => .ok .timerclk
  | some .reset => .ok .reset
  | some .poweron => .ok .poweron
  | some .save => .ok .save
  | some .restore =>
    match beside with
    | some n => .ok (.restore n)
    | none => .error .missingSnapshot
  | some .extset => .ok (.extset (wdataOf w))
  | some .aEvent => .ok (decodeEvent (offsetOf w))
  | some .aTx => .ok .aTx
  | some .aRx => .ok (.aRx ((wdataOf w).extractLsb' 0 8))
  | some .aReset => .ok .aReset
  | some .aPoweron => .ok .aPoweron
  | none => .error (.reservedKind (kindOf w))

/-! ### The opcode table (R76)

A row's pattern and mask are computed from the kind codes and offsets above; that they are the literals of
`spec/opcode_table.json` is `opcodeTable_eq` in `Laws/Decode.lean`. -/

/-- One row of `spec/opcode_table.json`: a word selects it when `w & mask == pattern`. -/
structure OpRow where
  mnemonic : String
  pattern : OpWord
  mask : OpWord
  priority : Nat
  deriving DecidableEq, Repr

/-- The mask of a row that the kind alone selects. -/
def kindMask : OpWord := pack (BitVec.allOnes _) 0 0

/-- The mask of a row that the kind and the offset select. -/
def kindOffsetMask : OpWord := pack (BitVec.allOnes _) (BitVec.allOnes _) 0

/-- The rows of the sensor. -/
def tableTrs : List OpRow :=
  [⟨"RD.CTRL", pack (kindCode .rd) offCtrl 0, kindOffsetMask, 1⟩,
   ⟨"RD.STATUS", pack (kindCode .rd) offStatus 0, kindOffsetMask, 1⟩,
   ⟨"RD.DATA", pack (kindCode .rd) offData 0, kindOffsetMask, 1⟩,
   ⟨"RD.INVALID", pack (kindCode .rd) 0 0, kindMask, 2⟩,
   ⟨"WR.CTRL", pack (kindCode .wr) offCtrl 0, kindOffsetMask, 1⟩,
   ⟨"WR.STATUS", pack (kindCode .wr) offStatus 0, kindOffsetMask, 1⟩,
   ⟨"WR.DATA", pack (kindCode .wr) offData 0, kindOffsetMask, 1⟩,
   ⟨"WR.INVALID", pack (kindCode .wr) 0 0, kindMask, 2⟩,
   ⟨"TICK", pack (kindCode .tick) 0 0, kindMask, 1⟩,
   ⟨"TIMERCLK", pack (kindCode .timerclk) 0 0, kindMask, 1⟩,
   ⟨"RESET", pack (kindCode .reset) 0 0, kindMask, 1⟩,
   ⟨"POWERON", pack (kindCode .poweron) 0 0, kindMask, 1⟩,
   ⟨"SAVE", pack (kindCode .save) 0 0, kindMask, 1⟩,
   ⟨"RESTORE", pack (kindCode .restore) 0 0, kindMask, 1⟩,
   ⟨"EXTSET", pack (kindCode .extset) 0 0, kindMask, 1⟩]

/-- The rows of the companion device. -/
def tableArs : List OpRow :=
  [⟨"A.EVENT.START_RECEIVE", pack (kindCode .aEvent) eventStartReceive 0, kindOffsetMask, 1⟩,
   ⟨"A.EVENT.OTHER", pack (kindCode .aEvent) 0 0, kindMask, 2⟩,
   ⟨"A.TX", pack (kindCode .aTx) 0 0, kindMask, 1⟩,
   ⟨"A.RX", pack (kindCode .aRx) 0 0, kindMask, 1⟩,
   ⟨"A.RESET", pack (kindCode .aReset) 0 0, kindMask, 1⟩,
   ⟨"A.POWERON", pack (kindCode .aPoweron) 0 0, kindMask, 1⟩]

/-- The whole table, 21 rows. -/
def opcodeTable : List OpRow := tableTrs ++ tableArs

/-- Whether a word selects a row (R76). -/
def rowSelects (w : OpWord) (r : OpRow) : Bool := w &&& r.mask == r.pattern

/-- The row a word selects: rows of priority 1 first, the fallback rows only when none of them
matches (R76). -/
def selectRow (w : OpWord) : Option OpRow :=
  match opcodeTable.find? (fun r => r.priority == 1 && rowSelects w r) with
  | some r => some r
  | none => opcodeTable.find? (fun r => r.priority == 2 && rowSelects w r)

/-! ### The encoder -/

/-- The operation word of an instruction; fields its kind does not use are written as 0 (R71). -/
def encodeWord : Instr → OpWord
  | .rdCtrl => pack (kindCode .rd) offCtrl 0
  | .rdStatus => pack (kindCode .rd) offStatus 0
  | .rdData => pack (kindCode .rd) offData 0
  | .rdInvalid offset => pack (kindCode .rd) offset 0
  | .wrCtrl wdata => pack (kindCode .wr) offCtrl wdata
  | .wrStatus wdata => pack (kindCode .wr) offStatus wdata
  | .wrData wdata => pack (kindCode .wr) offData wdata
  | .wrInvalid offset wdata => pack (kindCode .wr) offset wdata
  | .tick => pack (kindCode .tick) 0 0
  | .timerclk => pack (kindCode .timerclk) 0 0
  | .reset => pack (kindCode .reset) 0 0
  | .poweron => pack (kindCode .poweron) 0 0
  | .save => pack (kindCode .save) 0 0
  | .restore _ => pack (kindCode .restore) 0 0
  | .extset v => pack (kindCode .extset) 0 v
  | .aEventStartReceive => pack (kindCode .aEvent) eventStartReceive 0
  | .aEventOther code => pack (kindCode .aEvent) code 0
  | .aTx => pack (kindCode .aTx) 0 0
  | .aRx b => pack (kindCode .aRx) 0 (b.setWidth 32)
  | .aReset => pack (kindCode .aReset) 0 0
  | .aPoweron => pack (kindCode .aPoweron) 0 0

/-- What stands beside the word: the snapshot of a `RESTORE`, nothing else (R83). -/
def encodeBeside : Instr → Option Snapshot
  | .rdCtrl | .rdStatus | .rdData | .rdInvalid _ => none
  | .wrCtrl _ | .wrStatus _ | .wrData _ | .wrInvalid _ _ => none
  | .tick | .timerclk | .reset | .poweron | .save => none
  | .restore snap => some snap
  | .extset _ => none
  | .aEventStartReceive | .aEventOther _ | .aTx | .aRx _ | .aReset | .aPoweron => none

/-! ### Syntax (R78, R79, R82)

The texts and the expansions name no offset, bit or event code of their own: each is computed from the
definitions above. -/

/-- A value as `0x` and at least `digits` hexadecimal digits (R10, R78). -/
def hexText (digits n : Nat) : String :=
  let d := (Nat.toDigits 16 n).map Char.toUpper
  "0x" ++ String.ofList (List.replicate (digits - d.length) '0' ++ d)

/-- A value with a digit for every four bits of its width (R78). -/
def valueText {n : Nat} (v : BitVec n) : String := hexText (n / 4) v.toNat

/-- `RD off` (R78). -/
def readText (offset : Word) : String := "RD " ++ hexText 2 offset.toNat

/-- `WR off, val` (R78). -/
def writeText (offset wdata : Word) : String :=
  "WR " ++ hexText 2 offset.toNat ++ ", " ++ valueText wdata

/-- The source's name of an event code, or the code itself where the source names none (R82). -/
def eventText (code : Word) : String :=
  if code = eventStartReceive then "START_RECEIVE"
  else if code = eventStartTransmit then "START_TRANSMIT"
  else if code = eventStop then "STOP"
  else toString code.toNat

/-- The mnemonic form of an operation (R78, R82); `name` is the test line's name for the snapshot of
`SAVE -> name` and `RESTORE name`. -/
def Instr.text (name : String) : Instr → String
  | .rdCtrl => readText offCtrl
  | .rdStatus => readText offStatus
  | .rdData => readText offData
  | .rdInvalid o => readText o
  | .wrCtrl v => writeText offCtrl v
  | .wrStatus v => writeText offStatus v
  | .wrData v => writeText offData v
  | .wrInvalid o v => writeText o v
  | .tick => "TICK"
  | .timerclk => "TIMERCLK"
  | .reset => "RESET"
  | .poweron => "POWERON"
  | .save => "SAVE -> " ++ name
  | .restore _ => "RESTORE " ++ name
  | .extset v => "EXTSET " ++ valueText v
  | .aEventStartReceive => "A.EVENT " ++ eventText eventStartReceive
  | .aEventOther k => "A.EVENT " ++ eventText k
  | .aTx => "A.TX"
  | .aRx b => "A.RX " ++ valueText b
  | .aReset => "A.RESET"
  | .aPoweron => "A.POWERON"

/-- The expansion of each pseudo-operation (R79): `ENABLE` sets CTRL.EN alone, `ENABLE.IRQ` CTRL.EN and
CTRL.IEN, `DISABLE` neither. -/
def PseudoOp.expand : PseudoOp → List Instr
  | .enable => [.wrCtrl (bitMask ctrlEnBit)]
  | .enableIrq => [.wrCtrl (bitMask ctrlEnBit ||| bitMask ctrlIenBit)]
  | .disable => [.wrCtrl 0]
  | .ticks n => List.replicate n .tick
  | .wait n => List.replicate n .timerclk
  | .kick => [.wrStatus 0]

/-! ### What the host asks -/

/-- The operation word whose low `nbits` bits are those of `w`, every bit above them 0. -/
def tableWord (nbits w : Nat) : OpWord := BitVec.ofNat 72 (w % 2 ^ nbits)

/-- What is laid beside a word that comes alone: a snapshot if the word is a `RESTORE`, else nothing
(log entry 8). -/
def tableBeside (w : OpWord) : Option Snapshot :=
  if kindOf w = kindCode .restore then some idleSnapshot else none

/-- The instruction the decoder reads from the bits `w`, numbered as the opcode table numbers them. -/
def decodeTableWord (nbits w : Nat) : Option Instr :=
  match decode (tableWord nbits w) (tableBeside (tableWord nbits w)) with
  | .ok i => some i
  | .error _ => none

end Sys2Proof
end

