-- ==== Sys2Proof/Machine/State.lean ====
section
/-! DEFINITION. The state of the machine (`spec/10_state.md`, `spec/45_addressed_slave.md` R151), the
operations that wait to be performed on it, the ways a step can stop, and the state after reset. -/

namespace Sys2Proof.Machine

/-- The state of the TimedRegisterSensor (R20). -/
structure Trs where
  /-- `x[0]`, CTRL (R23) -/
  ctrl : Word
  /-- `x[1]`, STATUS (R24) -/
  status : Word
  /-- `x[2]`, DATA (R26) -/
  data : Word
  /-- `timer_running`: true in `RUNNING`, false in `STOPPED` (R27) -/
  timerRunning : Bool
  /-- `timer_count`: timer clocks left before the next tick (R27) -/
  timerCount : Nat
  deriving DecidableEq, Repr

/-- `transferCount`, "a two-state flag (need-address vs need-data)" (R154): 0 and 1. -/
inductive TransferCount where
  /-- 0: expecting the address byte -/
  | needAddress
  /-- 1: expecting a data byte -/
  | needData
  deriving DecidableEq, Repr

/-- The state of the AddressedRegisterSlave (R151). -/
structure Ars where
  /-- `regs[0]`, CTRL; bit 0 is enable (R152) -/
  ctrl : Byte
  /-- `regs[1]`, DATA (R153) -/
  data : Byte
  transferCount : TransferCount
  /-- the selected register index, 0 to 255 (R155) -/
  pointer : Byte
  deriving DecidableEq, Repr

/-- What the last operation returned to the agent that performed it: the model's own record of what is
observable of a run (R81, R236). Log entry 7. -/
inductive OpResult where
  /-- the operation returns nothing -/
  | nothing
  /-- `rdata` of a `RD` (R81) -/
  | rdata (v : Word)
  /-- the snapshot of a `SAVE` (R136) -/
  | snapshot (n : Snapshot)
  /-- the byte of an `A.TX` (R162) -/
  | byte (b : Byte)
  /-- the success status of `A.EVENT` and `A.RX` (R160, R161, R163) -/
  | success
  /-- the saved record of the companion device (R169) -/
  | arsSnapshot (n : Ars)
  deriving DecidableEq, Repr

/-- What a bus master asks of the window (R53, R65). -/
inductive AccessKind where
  | read
  | write
  | fetch
  deriving DecidableEq, Repr

/-- A bus access as it reaches the boundary, its address already decoded to an offset (R4, R53). -/
structure BusAccess where
  kind : AccessKind
  offset : Word
  /-- width in bytes -/
  width : Nat
  /-- the written value, of which a write of 4 bytes carries all -/
  value : Word
  deriving DecidableEq, Repr

/-- One entry of the total order of operations (R63): an operation word with what stands beside it
(R71, R83), a bus access in front of the boundary (R53), or an interaction of the host framework that
has no operation word (R169, R140). Log entries 1, 13, 16. -/
inductive Request where
  | op (word : OpWord) (beside : Option Snapshot)
  | access (a : BusAccess)
  /-- save the companion device (R169) -/
  | arsSave
  /-- restore the companion device (R169) -/
  | arsRestore (n : Ars)
  /-- the TRS is destroyed "with the device" (R33, R140) -/
  | trsDestroy
  /-- the ARS is destroyed "with the device" (R33, R140) -/
  | arsDestroy
  deriving DecidableEq, Repr

/-- The machine: both devices, the scalar source they read, and the operations still to come. -/
structure State where
  /-- the TRS (R20) -/
  trs : Trs
  /-- whether the TRS is instantiated (R33, R220). Log entry 9. -/
  trsLive : Bool
  /-- the companion device (R151) -/
  ars : Ars
  /-- whether the companion device is instantiated (R164). Log entry 9. -/
  arsLive : Bool
  /-- the external scalar source both devices read (R30, R156); `none` is an unavailable source -/
  ext : Option ExtWord
  /-- what the last operation returned (R81, R236) -/
  result : OpResult
  /-- the operations still to be performed, next one first (R63). Log entry 1. -/
  schedule : List Request
  deriving DecidableEq, Repr

/-- The ways in which there is NO STEP. R12 gives an operation three outcomes: it completes (`next`), it
is refused (`refused`), or it has no step, which this model answers as a `fault`, a stuck state.
"No operation faults" (R12, R190): no constructor here is an exception of the hardware. Log entry 3. -/
inductive Fault where
  /-- Raised by `TICK` while the timer is `STOPPED` (R123). Safe: the spec gives no step. -/
  | tickWhileStopped
  /-- Raised by an operation on a TRS that is not instantiated (R220, R140). Safe: no step. -/
  | trsAbsent
  /-- Raised by an operation on an ARS that is not instantiated (R140, R164). Safe: no step. -/
  | arsAbsent
  /-- Raised by the step on a word of reserved kind (R77 item 4). Safe: no step. -/
  | reservedKind (kind : Byte)
  /-- Raised by the step when no operation is scheduled and the timer is not running: the block is
  quiescent and the run ends (R236). Safe: no step. -/
  | quiescent
  deriving DecidableEq, Repr

/-- What the model gives no meaning because it is outside the block's contract (R12). -/
inductive Refusal where
  /-- Raised by a refused arm of `exec`. Safe: the run stops. No arm uses it. -/
  | notModelled (mnemonic : String)
  /-- Raised by `RESTORE` of a snapshot that is not well-formed (R137). Safe: the spec refuses it. -/
  | illFormedSnapshot
  /-- Raised by the step on a `RESTORE` word with no snapshot beside it (R83). Safe: the run stops. -/
  | missingSnapshot
  /-- Raised by the boundary on an access that is not 4 bytes wide (R53). Safe: the spec refuses it. -/
  | accessWidth
  /-- Raised by the boundary on a misaligned access (R54). Safe: the spec refuses it. -/
  | misalignedAccess
  /-- Raised by the boundary on an instruction fetch (R65). Safe: the spec refuses it. -/
  | fetchFromWindow
  deriving DecidableEq, Repr

/-- The machine after power-on and reset of both devices (R32, R157), with nothing scheduled. The value
of `ext` is not the block's (R32) and stays free. Log entries 1, 4, 5. -/
def State.reset : State where
  trs := ⟨0x00000000#32, 0x00000000#32, 0x00000000#32, false, Config.tickPeriod⟩
  trsLive := true
  ars := ⟨0x00#8, 0x00#8, .needAddress, 0x00#8⟩
  arsLive := true
  ext := Config.extAtReset
  result := .nothing
  schedule := []

end Sys2Proof.Machine
end

