-- ==== Sys2Proof/Machine/Ops.lean ====
section
/-! DEFINITION. The named operations over the state: raw writes of one field (`x[i] <- v`,
`fsm <- RUNNING`, ... of `spec/00_scope.md` R11), the timer's start, stop and reload, how an operation
completes, and when it has no step.

The block takes no exception and returns from none (`spec/60_exceptions.md` R190, R198), and has no memory
beyond its registers (`spec/20_memory.md` R50), so no operation for either stands here. -/

namespace Sys2Proof.Machine

/-! ### Raw writes of one field -/

/-- `x[0] <- v` -/
def Trs.setCtrl (v : Word) (t : Trs) : Trs := { t with ctrl := v }
/-- `x[1] <- v` -/
def Trs.setStatus (v : Word) (t : Trs) : Trs := { t with status := v }
/-- `x[2] <- v` -/
def Trs.setData (v : Word) (t : Trs) : Trs := { t with data := v }
/-- `fsm <- RUNNING` (true), `fsm <- STOPPED` (false) -/
def Trs.setTimerRunning (b : Bool) (t : Trs) : Trs := { t with timerRunning := b }
/-- `timer_count <- n` -/
def Trs.setTimerCount (n : Nat) (t : Trs) : Trs := { t with timerCount := n }

/-- `regs[0] <- b` -/
def Ars.setCtrl (b : Byte) (a : Ars) : Ars := { a with ctrl := b }
/-- `regs[1] <- b` -/
def Ars.setData (b : Byte) (a : Ars) : Ars := { a with data := b }
/-- `transferCount <- c` -/
def Ars.setTransferCount (c : TransferCount) (a : Ars) : Ars := { a with transferCount := c }
/-- `pointer <- b` -/
def Ars.setPointer (b : Byte) (a : Ars) : Ars := { a with pointer := b }

/-- The TRS replaced. -/
def State.setTrs (t : Trs) (s : State) : State := { s with trs := t }
/-- The TRS instantiated or destroyed. -/
def State.setTrsLive (b : Bool) (s : State) : State := { s with trsLive := b }
/-- The ARS replaced. -/
def State.setArs (a : Ars) (s : State) : State := { s with ars := a }
/-- The ARS instantiated or destroyed. -/
def State.setArsLive (b : Bool) (s : State) : State := { s with arsLive := b }
/-- `ext <- v` -/
def State.setExt (v : Option ExtWord) (s : State) : State := { s with ext := v }
/-- The result handed to the agent. -/
def State.setResult (r : OpResult) (s : State) : State := { s with result := r }
/-- The operations still to come. -/
def State.setSchedule (rs : List Request) (s : State) : State := { s with schedule := rs }

/-! ### The timer (R101, R115, R118, R119) -/

/-- "(re)start the periodic timer", a no-op if already running; from `STOPPED` the count is loaded with
a full period (R101, R119). -/
def startTimer (t : Trs) : Trs :=
  if t.timerRunning then t else (t.setTimerRunning true).setTimerCount Config.tickPeriod

/-- "stop the timer": immediate, the count is kept (R101, R119). -/
def stopTimer (t : Trs) : Trs := t.setTimerRunning false

/-- The free-running reload (R118). -/
def reloadTimer (t : Trs) : Trs := t.setTimerCount Config.tickPeriod

/-! ### Outcomes (R12) -/

/-- The operation completes: it returns `r`. -/
def complete (r : OpResult) (s : State) : Host.Outcome State Fault Refusal := .next (s.setResult r)

/-- An operation of the TRS has a step only once the device is instantiated (R220). -/
def onTrs (s : State) (answer : Host.Outcome State Fault Refusal) : Host.Outcome State Fault Refusal :=
  if s.trsLive then answer else .fault .trsAbsent

/-- An operation of the ARS has a step only once the device is instantiated (R140, R164). -/
def onArs (s : State) (answer : Host.Outcome State Fault Refusal) : Host.Outcome State Fault Refusal :=
  if s.arsLive then answer else .fault .arsAbsent

/-! ### Initial values (R32, R157) -/

/-- The TRS after power-on and after reset (R32, R220, R222). -/
def trsInitial : Trs := ⟨0#32, 0#32, 0#32, false, Config.tickPeriod⟩

/-- The ARS after power-on (R157, R164). -/
def arsInitial : Ars := ⟨0#8, 0#8, .needAddress, 0#8⟩

end Sys2Proof.Machine
end

