-- ==== Sys2Proof/Machine/Operands.lean ====
section
/-! DEFINITION. Operand forms: the register window as the bus master reads it (`spec/20_memory.md` R51),
the external scalar source as the devices read it (R30), the register selected by the companion
device's pointer (R155), and the snapshot as a view of the state (R34). -/

namespace Sys2Proof.Machine

/-- `OOR_READ_VALUE`: what a read of an invalid offset returns (R9, R94). -/
def oorReadValue : Word := 0x00000000#32

/-- The value of the window at an offset (R51, R75, R90). -/
def readWindow (t : Trs) (offset : Word) : Word :=
  match decodeReg offset with
  | .ctrl => t.ctrl
  | .status => t.status
  | .data => t.data
  | .invalid => oorReadValue

/-- The external scalar source as a device reads it: an unavailable source reads as 0 (R30). -/
def readExt (ext : Option ExtWord) : ExtWord := ext.getD 0

/-- What a tick stores in DATA, `zext_32(ext[7:0])` (R116). -/
def sampleWord (ext : Option ExtWord) : Word := ((readExt ext).extractLsb' 0 sampleWidth).setWidth _

/-- The width of the companion device's registers, in bits (R151): that of the type `Byte` they have. -/
def arsRegWidth : Nat := bitWidth (0 : Byte)

/-- `ext[7:0]`, which a read-start event stores in the companion device's DATA (R160). -/
def extByte (ext : Option ExtWord) : Byte := (readExt ext).extractLsb' 0 arsRegWidth

/-! ### The companion device's registers (R151, R152, R155) -/

/-- Index of the companion device's CTRL. -/
def arsCtrlIndex : Byte := 0#8
/-- Index of the companion device's DATA. -/
def arsDataIndex : Byte := 1#8
/-- `ANUM_REGS`: pointers from here on are out of range. -/
def arsNumRegs : Nat := 2
/-- The sentinel of an out-of-range transmit request (R162). -/
def arsSentinel : Byte := 0xFF#8

/-- Whether the pointer selects a register (R155). -/
def pointerInRange (a : Ars) : Bool := decide (a.pointer.toNat < arsNumRegs)

/-- `regs[pointer]` for a pointer in range. -/
def selectedReg (a : Ars) : Byte := if a.pointer = arsCtrlIndex then a.ctrl else a.data

/-- The companion device's enable bit, bit 0 of its CTRL (R152). -/
def arsEnabled (a : Ars) : Bool := a.ctrl.getLsbD 0

/-! ### Snapshots (R34, R135) -/

/-- The snapshot of a state of the TRS (R136). -/
def capture (t : Trs) : Snapshot := ⟨t.ctrl, t.status, t.data, t.timerRunning, t.timerCount⟩

/-- The state of the TRS a snapshot holds: raw, no mask and no hook (R137). -/
def fromSnapshot (n : Snapshot) : Trs := ⟨n.x0, n.x1, n.x2, n.timerRunning, n.timerCount⟩

end Sys2Proof.Machine
end

