-- ==== Sys2Proof/Machine/Boundary.lean ====
section
/-! DEFINITION. The boundary in front of the block (`spec/20_memory.md` R53, R54, R65): which bus accesses
become operations of the block, and the byte-addressed view of the window (R55). -/

namespace Sys2Proof.Machine

/-- The only access width, in bytes: the whole register (R53). -/
def accessWidthBytes : Nat := regWidth / 8

/-- The operation word an access becomes, or why the model refuses it: an instruction fetch (R65), an
access that is not 4 bytes wide (R53), a misaligned one (R54). Log entry 13. -/
def admitAccess (a : BusAccess) : Except Refusal OpWord :=
  if a.kind = .fetch then .error .fetchFromWindow
  else if a.width ≠ accessWidthBytes then .error .accessWidth
  else if a.offset.toNat % accessWidthBytes ≠ 0 then .error .misalignedAccess
  else if a.kind = .write then .ok (pack (kindCode .wr) a.offset a.value)
  else .ok (pack (kindCode .rd) a.offset 0#32)

/-- The aligned offset of the word that holds a byte of the window. -/
def wordOffset (offset : Word) : Word := offset - BitVec.ofNat _ (offset.toNat % regStride)

/-- Which byte of its word an offset names, counted from bits 7:0 up (R55). -/
def byteLane (e : Endian) (offset : Word) : Nat :=
  match e with
  | .little => offset.toNat % regStride
  | .big => regStride - 1 - offset.toNat % regStride

/-- The byte-addressed view of the window (R55): a view, not an operation of the block (log entry 14). -/
def windowByte (e : Endian) (t : Trs) (offset : Word) : Byte :=
  (readWindow t (wordOffset offset)).extractLsb' (8 * byteLane e offset) 8

/-- `REGION_SIZE`, in bytes: open, and at least the registers' own (R9). -/
def regionSize : Nat := numRegs * regStride + Config.platform.regionExtra

/-- The same view in the platform's own byte order and addresses: the byte at `MMIO_BASE + n` of the
forwarded window (R9, R52, R55). The spec bounds `REGION_SIZE` from below only, while an offset has
`REG_WIDTH` bits; a byte of the region that no offset names is here no byte of the window, a DESIGN CHOICE
of the model (safe, log entry 20). -/
def platformByte (t : Trs) (address : Nat) : Option Byte :=
  let n := address - Config.platform.mmioBase
  if Config.platform.mmioBase ≤ address ∧ n < regionSize ∧ n < 2 ^ regWidth then
    some (windowByte Config.platform.busEndian t (BitVec.ofNat _ n))
  else none

end Sys2Proof.Machine
end

