-- ==== Sys2Proof/Machine/AddressedSlave.lean ====
section
/-! DEFINITION. The companion device AddressedRegisterSlave (`spec/45_addressed_slave.md`). -/

namespace Sys2Proof.Machine

/-- The refresh of DATA at a read-start event (R160): only when the pointer addresses DATA. -/
def refreshData (ext : Option ExtWord) (a : Ars) : Ars :=
  if a.pointer = arsDataIndex then
    if arsEnabled a then a.setData (extByte ext) else a.setData 0x00#8
  else a

/-- "On any event, reset `transferCount` to 0" (R160, R161). -/
def endTransfer (a : Ars) : Ars := a.setTransferCount .needAddress

/-- `A.EVENT START_RECEIVE` (R160). -/
def execAEventStartReceive (s : State) : Host.Outcome State Fault Refusal :=
  onArs s (complete .success (s.setArs (endTransfer (refreshData s.ext s.ars))))

/-- `A.EVENT k` for every other kind (R161). -/
def execAEventOther (_code : Word) (s : State) : Host.Outcome State Fault Refusal :=
  onArs s (complete .success (s.setArs (endTransfer s.ars)))

/-- `A.TX` (R162): the selected register with post-increment, or the sentinel. -/
def execATx (s : State) : Host.Outcome State Fault Refusal :=
  onArs s
    (if pointerInRange s.ars then
      complete (.byte (selectedReg s.ars)) (s.setArs (s.ars.setPointer (s.ars.pointer + 1)))
    else complete (.byte arsSentinel) s)

/-- What a received byte does (R163): the address byte first, then data bytes, which only CTRL takes. -/
def receiveByte (b : Byte) (a : Ars) : Ars :=
  match a.transferCount with
  | .needAddress => (a.setPointer b).setTransferCount .needData
  | .needData => if a.pointer = arsCtrlIndex then (a.setCtrl b).setPointer arsDataIndex else a

/-- `A.RX b` (R163). -/
def execARx (b : Byte) (s : State) : Host.Outcome State Fault Refusal :=
  onArs s (complete .success (s.setArs (receiveByte b s.ars)))

/-- `A.RESET` (R165): registers and `transferCount` zeroed, `pointer` unchanged. -/
def execAReset (s : State) : Host.Outcome State Fault Refusal :=
  onArs s
    (complete .nothing
      (s.setArs (((s.ars.setCtrl 0x00#8).setData 0x00#8).setTransferCount .needAddress)))

/-- `A.POWERON` (R164). Log entry 10 for a live device. -/
def execAPoweron (s : State) : Host.Outcome State Fault Refusal :=
  complete .nothing ((s.setArs arsInitial).setArsLive true)

/-- Save of the companion device: the whole record (R169). -/
def performArsSave (s : State) : Host.Outcome State Fault Refusal :=
  onArs s (complete (.arsSnapshot s.ars) s)

/-- Restore of the companion device: raw, it runs nothing (R169). -/
def performArsRestore (n : Ars) (s : State) : Host.Outcome State Fault Refusal :=
  onArs s (complete .nothing (s.setArs n))

/-- The ARS is destroyed; nothing of it is usable afterwards (R33, R140). -/
def performArsDestroy (s : State) : Host.Outcome State Fault Refusal :=
  onArs s (complete .nothing (s.setArsLive false))

end Sys2Proof.Machine
end

