-- ==== Sys2Proof/Machine/Flags.lean ====
section
/-! DEFINITION. The one status flag, STATUS.IFG (`spec/10_state.md` R25), and the interrupt output
(`spec/42_timer_irq.md` R120). -/

namespace Sys2Proof.Machine

/-- `x[1] | 0x2`: IFG set, and kept set (R116). -/
def setIfg (t : Trs) : Trs := t.setStatus (t.status ||| ifgMask)

/-- `Irq` of the registers (R120): the AND of three bits, never of raw words (conflict C1). -/
def irqOf (t : Trs) : Bool := enOf t.ctrl && ienOf t.ctrl && ifgOf t.status

/-- The level of the interrupt output, at every instant a function of the state (R29, R120); a TRS that
is not instantiated drives nothing. -/
def State.irq (s : State) : Bool := s.trsLive && irqOf s.trs

/-- `evaluateInterrupt()`: drives the output with `Irq(s)`. The output is not stored (R29), so the
evaluation leaves the registers as they are. -/
def evaluateInterrupt (t : Trs) : Trs := t

end Sys2Proof.Machine
end

