-- ==== Sys2Proof/Machine/RegisterRead.lean ====
section
/-! DEFINITION. The read family (`spec/40_register_read.md`): no form writes any state (R57, R90). -/

namespace Sys2Proof.Machine

/-- `read(offset)`: what the window holds there (R90). -/
def busRead (offset : Word) (s : State) : Host.Outcome State Fault Refusal :=
  onTrs s (complete (.rdata (readWindow s.trs offset)) s)

/-- `RD.CTRL` (R91). -/
def execRdCtrl (s : State) : Host.Outcome State Fault Refusal := busRead offCtrl s

/-- `RD.STATUS` (R92): the flag is not cleared. -/
def execRdStatus (s : State) : Host.Outcome State Fault Refusal := busRead offStatus s

/-- `RD.DATA` (R93): the external source is not sampled. -/
def execRdData (s : State) : Host.Outcome State Fault Refusal := busRead offData s

/-- `RD.INVALID` (R94): the value of `OOR_READ_VALUE`, whatever the offset. -/
def execRdInvalid (_offset : Word) (s : State) : Host.Outcome State Fault Refusal :=
  onTrs s (complete (.rdata oorReadValue) s)

end Sys2Proof.Machine
end

