-- ==== Sys2Proof/Machine/RegisterWrite.lean ====
section
/-! DEFINITION. The write family and its hooks (`spec/41_register_write.md`). -/

namespace Sys2Proof.Machine

/-- The hook `onCtrlWrite`, on the value now in CTRL (R101, R102): the timer started if EN is set,
stopped if it is clear; then the interrupt follows. -/
def onCtrlWrite (t : Trs) : Trs :=
  evaluateInterrupt (if enOf t.ctrl then startTimer t else stopTimer t)

/-- The hook `onStatusWrite`: the interrupt re-evaluated against the current registers (R104). -/
def onStatusWrite (t : Trs) : Trs := evaluateInterrupt t

/-- `write(0x00, wdata)`: the register update, then the hook (R101). -/
def writeCtrl (wdata : Word) (t : Trs) : Trs := onCtrlWrite (t.setCtrl (ctrlStored wdata))

/-- `WR.CTRL` (R101). -/
def execWrCtrl (wdata : Word) (s : State) : Host.Outcome State Fault Refusal :=
  onTrs s (complete .nothing (s.setTrs (writeCtrl wdata s.trs)))

/-- `WR.STATUS` (R104): no bit of `wdata` is stored. -/
def execWrStatus (_wdata : Word) (s : State) : Host.Outcome State Fault Refusal :=
  onTrs s (complete .nothing (s.setTrs (onStatusWrite s.trs)))

/-- `WR.DATA` (R105): dropped, no hook. -/
def execWrData (_wdata : Word) (s : State) : Host.Outcome State Fault Refusal :=
  onTrs s (complete .nothing s)

/-- `WR.INVALID` (R106): dropped, whatever the offset and the value. -/
def execWrInvalid (_offset _wdata : Word) (s : State) : Host.Outcome State Fault Refusal :=
  onTrs s (complete .nothing s)

end Sys2Proof.Machine
end

