-- ==== Sys2Proof/Machine/System.lean ====
section
/-! DEFINITION. The system family: power-on and reset (`spec/70_reset_and_hazards.md`), save, restore and the
external writer (`spec/43_system_ops.md`), and the destruction of the device (R33, R140). -/

namespace Sys2Proof.Machine

/-- `RESET` (R222): registers zeroed, timer `STOPPED`, count loaded; no write hook runs. -/
def execReset (s : State) : Host.Outcome State Fault Refusal :=
  onTrs s (complete .nothing (s.setTrs trsInitial))

/-- `POWERON` (R220): the device is created with its initial state. Log entry 10 for a live device. -/
def execPoweron (s : State) : Host.Outcome State Fault Refusal :=
  complete .nothing ((s.setTrs trsInitial).setTrsLive true)

/-- `SAVE` (R136): a snapshot; the state is unchanged. -/
def execSave (s : State) : Host.Outcome State Fault Refusal :=
  onTrs s (complete (.snapshot (capture s.trs)) s)

/-- `RESTORE snap` (R137): raw writes, no hook; a snapshot that is not well-formed is refused. -/
def execRestore (snap : Snapshot) (s : State) : Host.Outcome State Fault Refusal :=
  onTrs s
    (if snap.wellFormed then complete .nothing (s.setTrs (fromSnapshot snap))
     else .refused .illFormedSnapshot)

/-- `EXTSET v` (R139): the external writer, at any point of the total order. -/
def execExtset (v : ExtWord) (s : State) : Host.Outcome State Fault Refusal :=
  complete .nothing (s.setExt (some v))

/-- The TRS is destroyed; nothing of it is usable afterwards (R33, R140). -/
def performTrsDestroy (s : State) : Host.Outcome State Fault Refusal :=
  onTrs s (complete .nothing (s.setTrsLive false))

end Sys2Proof.Machine
end

