-- ==== Sys2Proof/Machine/Timer.lean ====
section
/-! DEFINITION. The timer family (`spec/42_timer_irq.md`): the tick and the timer clock. -/

namespace Sys2Proof.Machine

/-- `onTimerTick()` (R116): the sample, the flag, then the interrupt. -/
def onTimerTick (ext : Option ExtWord) (t : Trs) : Trs :=
  evaluateInterrupt (setIfg (t.setData (sampleWord ext)))

/-- One timer clock (R118): at 1 the count is reloaded and the tick performed in the same step, above 1
the count goes down; a stopped timer is frozen. Log entry 12 for a count of 0. -/
def timerClock (ext : Option ExtWord) (t : Trs) : Trs :=
  if t.timerRunning then
    if t.timerCount = 1 then onTimerTick ext (reloadTimer t)
    else t.setTimerCount (t.timerCount - 1)
  else t

/-- `TICK` (R116): enabled only while the timer runs (R123). -/
def execTick (s : State) : Host.Outcome State Fault Refusal :=
  onTrs s
    (if s.trs.timerRunning then complete .nothing (s.setTrs (onTimerTick s.ext s.trs))
     else .fault .tickWhileStopped)

/-- `TIMERCLK` (R118): always enabled. -/
def execTimerclk (s : State) : Host.Outcome State Fault Refusal :=
  onTrs s (complete .nothing (s.setTrs (timerClock s.ext s.trs)))

end Sys2Proof.Machine
end

