-- ==== Sys2Proof/Machine/Dispatch.lean ====
section
/-! DEFINITION. The one meaning of each operation, one arm per constructor of `Instr`. -/

namespace Sys2Proof.Machine

def exec (i : Instr) (s : State) : Host.Outcome State Fault Refusal :=
  match i with
  | .rdCtrl => Sys2Proof.Machine.execRdCtrl s
  | .rdStatus => Sys2Proof.Machine.execRdStatus s
  | .rdData => Sys2Proof.Machine.execRdData s
  | .rdInvalid offset => Sys2Proof.Machine.execRdInvalid offset s
  | .wrCtrl wdata => Sys2Proof.Machine.execWrCtrl wdata s
  | .wrStatus wdata => Sys2Proof.Machine.execWrStatus wdata s
  | .wrData wdata => Sys2Proof.Machine.execWrData wdata s
  | .wrInvalid offset wdata => Sys2Proof.Machine.execWrInvalid offset wdata s
  | .tick => Sys2Proof.Machine.execTick s
  | .timerclk => Sys2Proof.Machine.execTimerclk s
  | .reset => Sys2Proof.Machine.execReset s
  | .poweron => Sys2Proof.Machine.execPoweron s
  | .save => Sys2Proof.Machine.execSave s
  | .restore snap => Sys2Proof.Machine.execRestore snap s
  | .extset v => Sys2Proof.Machine.execExtset v s
  | .aEventStartReceive => Sys2Proof.Machine.execAEventStartReceive s
  | .aEventOther code => Sys2Proof.Machine.execAEventOther code s
  | .aTx => Sys2Proof.Machine.execATx s
  | .aRx b => Sys2Proof.Machine.execARx b s
  | .aReset => Sys2Proof.Machine.execAReset s
  | .aPoweron => Sys2Proof.Machine.execAPoweron s

end Sys2Proof.Machine
end

