-- ==== Sys2Proof/Machine/Schedule.lean ====
section
/-! DEFINITION. How the next operation of the total order is performed (`spec/20_memory.md` R63), and what the
block does of its own accord when none is scheduled (`spec/70_reset_and_hazards.md` R236). -/

namespace Sys2Proof.Machine

/-- What a step answers for a word that is no operation: no step for a reserved kind (R77 item 4), a
refusal for a `RESTORE` that lacks its operand (R83). -/
def rejectWord (e : DecodeError) : Host.Outcome State Fault Refusal :=
  match e with
  | .reservedKind k => .fault (.reservedKind k)
  | .missingSnapshot => .refused .missingSnapshot

/-- An operation word is decoded and executed. -/
def performWord (w : OpWord) (beside : Option Snapshot) (s : State) :
    Host.Outcome State Fault Refusal :=
  match decode w beside with
  | .ok i => exec i s
  | .error e => rejectWord e

/-- A bus access is admitted by the boundary and then performed, or refused by it (R53). -/
def performAccess (a : BusAccess) (s : State) : Host.Outcome State Fault Refusal :=
  match admitAccess a with
  | .ok w => performWord w none s
  | .error r => .refused r

/-- One entry of the total order. -/
def perform (r : Request) (s : State) : Host.Outcome State Fault Refusal :=
  match r with
  | .op w beside => performWord w beside s
  | .access a => performAccess a s
  | .arsSave => performArsSave s
  | .arsRestore n => performArsRestore n s
  | .trsDestroy => performTrsDestroy s
  | .arsDestroy => performArsDestroy s

/-- Nothing is scheduled: the timer of a running block still counts (one timer clock, R117, R118), and a
block that does not run is quiescent (R236). Log entry 2. -/
def performAutonomous (s : State) : Host.Outcome State Fault Refusal :=
  if s.trsLive && s.trs.timerRunning then exec .timerclk s else .fault .quiescent

/-- One step of the machine: the next entry of the total order, or the timer's own clock. -/
def performNext (s : State) : Host.Outcome State Fault Refusal :=
  match s.schedule with
  | [] => performAutonomous s
  | r :: rest => perform r (s.setSchedule rest)

/-- An operation word, with what stands beside it, put in front of the schedule. -/
def scheduleFirst (w : OpWord) (beside : Option Snapshot) (s : State) : State :=
  s.setSchedule (.op w beside :: s.schedule)

end Sys2Proof.Machine
end

