-- ==== Sys2Proof/Machine/Step.lean ====
section
/-! DEFINITION. The step of the machine, and the host's way of placing one operation word. -/

namespace Sys2Proof.Machine

/-- One step: the next operation of the total order is performed, or the block's own timer clock. -/
def step (s : State) : Host.Outcome State Fault Refusal := performNext s

/-- `s` with one operation word put first in the total order, so that the very next step performs it;
a `RESTORE` word gets a well-formed snapshot beside it. Log entries 1, 8. -/
def State.withFetchWord (s : State) (nbits w : Nat) : State :=
  scheduleFirst (tableWord nbits w) (tableBeside (tableWord nbits w)) s

end Sys2Proof.Machine
end

