-- ==== Sys2Proof/Safety.lean ====
section
/-! DEFINITION. What a safe state and a safe run are: the invariants of `spec/10_state.md` R28, quiescence
(`spec/70_reset_and_hazards.md` R236) and the schedules of the refined timer (`spec/42_timer_irq.md` R118). -/

namespace Sys2Proof.Machine

/-- The invariants of R28, with the range of `timer_count` of R20. This is a claim and not a parameter: its
literals are those of the rule, so that it does not move with the model's constants. -/
abbrev Trs.Inv (t : Trs) : Prop :=
  t.ctrl.toNat ≤ 0x3 ∧ (t.status = 0x00000000#32 ∨ t.status = 0x00000002#32) ∧ t.data.toNat ≤ 0xFF ∧
    (t.status = 0x00000000#32 → t.data = 0x00000000#32) ∧
    (t.timerRunning = true ↔ t.ctrl.getLsbD 0 = true) ∧
    1 ≤ t.timerCount ∧ t.timerCount ≤ Config.tickPeriod

/-- The invariant of the machine: the sensor's. The companion device has none to keep: every value of
its record is one the spec gives it (R151). -/
abbrev State.Inv (s : State) : Prop := s.trs.Inv

/-- Neither an operation is scheduled nor does the timer run (R236). -/
abbrev State.Quiescent (s : State) : Prop :=
  s.schedule = [] ∧ (s.trsLive && s.trs.timerRunning) = false

/-- The instruction a request asks for, if it asks for one. -/
def Request.instr? (r : Request) : Option Instr :=
  match r with
  | .op w beside => (decode w beside).toOption
  | .access a => (admitAccess a).toOption.bind fun w => (decode w none).toOption
  | .arsSave | .arsRestore _ | .trsDestroy | .arsDestroy => none

/-- A schedule of the refined timer: `TICK` is never performed on its own (R118). -/
abbrev Refined (rs : List Request) : Prop := ∀ r ∈ rs, r.instr? ≠ some .tick

/-- `transferCount` after an operation of either device that finds it at `c` (R154, R163); none if the
operation is an address byte, which is a byte received at 0, or creates the companion device afresh. -/
def countUnlessAddressed (c : TransferCount) : Instr → Option TransferCount
  | .aRx _ =>
    match c with
    | .needAddress => none
    | .needData => some .needData
  | .aPoweron => none
  | .aEventStartReceive | .aEventOther _ | .aReset => some .needAddress
  | .aTx => some c
  | .rdCtrl | .rdStatus | .rdData | .rdInvalid _ => some c
  | .wrCtrl _ | .wrStatus _ | .wrData _ | .wrInvalid _ _ => some c
  | .tick | .timerclk | .reset | .poweron | .save | .restore _ | .extset _ => some c

/-- Whether a sequence of operations that finds `transferCount` at `c` sends no address byte and does not
create the companion device afresh. -/
def noAddressByte (c : TransferCount) : List Instr → Bool
  | [] => true
  | i :: is =>
    match countUnlessAddressed c i with
    | some c' => noAddressByte c' is
    | none => false

/-- An operation as an entry of the total order: its word, and its snapshot beside it (R71, R83). -/
def Request.ofInstr (i : Instr) : Request := .op (encodeWord i) (encodeBeside i)

/-- The run that performs exactly these operations, in this order, from `s` (R63, R236). -/
def runOps (ops : List Instr) (s : State) : Host.Outcome State Fault Refusal :=
  Host.Core.run Sys2Proof.core ops.length (s.setSchedule (ops.map Request.ofInstr))

/-- The run of `n` steps in which nothing is scheduled: the timer's clocks alone (R118, R119). -/
def runAlone (n : Nat) (s : State) : Host.Outcome State Fault Refusal :=
  Host.Core.run Sys2Proof.core n (s.setSchedule [])

end Sys2Proof.Machine
end

