-- ==== Sys2Proof/WellFormed.lean ====
section
/-! DEFINITION. Which terms of `Instr` are instructions: the fallback forms carry no offset or event code
that a form of higher priority takes (`spec/30_encoding.md` R76), and the operand of `RESTORE` is a
well-formed snapshot (`spec/43_system_ops.md` R135, R137). -/

namespace Sys2Proof

/-- The check on each constructor's operands. -/
def Instr.wellFormed : Instr → Bool
  | .rdInvalid offset => decodeReg offset == .invalid
  | .wrInvalid offset _ => decodeReg offset == .invalid
  | .aEventOther code => code != eventStartReceive
  | .restore snap => snap.wellFormed
  | .rdCtrl | .rdStatus | .rdData => true
  | .wrCtrl _ | .wrStatus _ | .wrData _ => true
  | .tick | .timerclk | .reset | .poweron | .save | .extset _ => true
  | .aEventStartReceive | .aTx | .aRx _ | .aReset | .aPoweron => true

end Sys2Proof
end

