-- ==== Sys2Proof/Certificates/Slice0/Obligations.lean ====
section
/-! DEFINITION. The statements about the machine, from the spec's numbered rules: encoding, the step, reset
and the invariants, then each family of operations with its effect, its frame and where it has no step,
then the rules about the whole machine. The operation word in which statements write an operation (its kinds
and layout, R71, R72, R76 and R82) is the spec's own device, its decision D16, wherever it stands below. -/

open Sys2Proof Sys2Proof.Machine

/-! ### Encoding (`spec/30_encoding.md`) -/

/-- Every well-formed instruction, with every operand, is read back from its word and what stands beside
it (R71, R72, R76, R83; the operation word is the spec's own device, its decision D16). -/
def Obligations.DecodeOfEncodeIsTheInstruction : Prop :=
  ∀ i : Instr, i.wellFormed = true → decode (encodeWord i) (encodeBeside i) = .ok i

/-- A word that decodes is its instruction's encoding on the fields its kind uses; the ignored fields are
written as 0 (the operation word of R71, R72 and R82, the spec's own device, its decision D16). -/
def Obligations.EncodeOfDecodeKeepsTheUsedFields : Prop :=
  ∀ (w : OpWord) (b : Option Snapshot) (i : Instr), decode w b = .ok i →
    encodeWord i = w &&&
      (if kindOf w = 0x00#8 ∨ kindOf w = 0x10#8 then 0xFFFFFFFFFF00000000#72
       else if kindOf w = 0x01#8 then 0xFFFFFFFFFFFFFFFFFF#72
       else if kindOf w = 0x08#8 then 0xFF00000000FFFFFFFF#72
       else if kindOf w = 0x12#8 then 0xFF00000000000000FF#72
       else 0xFF0000000000000000#72)

/-- The opcode table is that of `spec/opcode_table.json`, and the decoder reads a word as the row the word
selects, priority 1 before the fallback rows, and rejects exactly the words that select no row and a `RESTORE`
without its operand (R76, R77, R83; that a `RESTORE` word alone is rejected is the model's choice, log entry
8). -/
def Obligations.DecoderFollowsTheOpcodeTable : Prop :=
  opcodeTable =
      [⟨"RD.CTRL", 0x000000000000000000#72, 0xFFFFFFFFFF00000000#72, 1⟩,
       ⟨"RD.STATUS", 0x000000000400000000#72, 0xFFFFFFFFFF00000000#72, 1⟩,
       ⟨"RD.DATA", 0x000000000800000000#72, 0xFFFFFFFFFF00000000#72, 1⟩,
       ⟨"RD.INVALID", 0x000000000000000000#72, 0xFF0000000000000000#72, 2⟩,
       ⟨"WR.CTRL", 0x010000000000000000#72, 0xFFFFFFFFFF00000000#72, 1⟩,
       ⟨"WR.STATUS", 0x010000000400000000#72, 0xFFFFFFFFFF00000000#72, 1⟩,
       ⟨"WR.DATA", 0x010000000800000000#72, 0xFFFFFFFFFF00000000#72, 1⟩,
       ⟨"WR.INVALID", 0x010000000000000000#72, 0xFF0000000000000000#72, 2⟩,
       ⟨"TICK", 0x020000000000000000#72, 0xFF0000000000000000#72, 1⟩,
       ⟨"TIMERCLK", 0x030000000000000000#72, 0xFF0000000000000000#72, 1⟩,
       ⟨"RESET", 0x040000000000000000#72, 0xFF0000000000000000#72, 1⟩,
       ⟨"POWERON", 0x050000000000000000#72, 0xFF0000000000000000#72, 1⟩,
       ⟨"SAVE", 0x060000000000000000#72, 0xFF0000000000000000#72, 1⟩,
       ⟨"RESTORE", 0x070000000000000000#72, 0xFF0000000000000000#72, 1⟩,
       ⟨"EXTSET", 0x080000000000000000#72, 0xFF0000000000000000#72, 1⟩,
       ⟨"A.EVENT.START_RECEIVE", 0x100000000000000000#72, 0xFFFFFFFFFF00000000#72, 1⟩,
       ⟨"A.EVENT.OTHER", 0x100000000000000000#72, 0xFF0000000000000000#72, 2⟩,
       ⟨"A.TX", 0x110000000000000000#72, 0xFF0000000000000000#72, 1⟩,
       ⟨"A.RX", 0x120000000000000000#72, 0xFF0000000000000000#72, 1⟩,
       ⟨"A.RESET", 0x130000000000000000#72, 0xFF0000000000000000#72, 1⟩,
       ⟨"A.POWERON", 0x140000000000000000#72, 0xFF0000000000000000#72, 1⟩] ∧
  ∀ (w : OpWord) (b : Option Snapshot),
    match decode w b with
    | .ok i => (selectRow w).map OpRow.mnemonic = some i.mnemonic
    | .error (.reservedKind k) => k = kindOf w ∧ selectRow w = none
    | .error .missingSnapshot => b = none ∧ (selectRow w).map OpRow.mnemonic = some "RESTORE"

/-- What the decoder answers is well-formed, the snapshot of a `RESTORE` apart (R76, the spec's decision D16,
and R135). -/
def Obligations.DecodedInstructionsAreWellFormed : Prop :=
  ∀ (w : OpWord) (b : Option Snapshot) (i : Instr), decode w b = .ok i →
    (∀ n, b = some n → n.wellFormed = true) → i.wellFormed = true

/-- Eight words of the vectors, each with the instruction the vector gives for it: V172, V173, V174, V177, V179,
V185 and V190 of the decoding table, and V159 of the companion device's table, in which `wdata[31:8]` of
`A.RX` is ignored (R72, R76, R82; the words are the spec's own device, its decision D16). -/
def Obligations.SampleWordsDecode : Prop :=
  decode 0x000000000800000000#72 none = .ok .rdData ∧
  decode 0x000000000C00000000#72 none = .ok (.rdInvalid 0x0C#32) ∧
  decode 0x010000000000000003#72 none = .ok (.wrCtrl 3#32) ∧
  decode 0x010000000200000001#72 none = .ok (.wrInvalid 2#32 1#32) ∧
  decode 0x02123456789ABCDEF0#72 none = .ok .tick ∧
  decode 0x0800000000000000A5#72 none = .ok (.extset 0xA5#32) ∧
  decode 0x100000000200000000#72 none = .ok (.aEventOther 2#32) ∧
  decode 0x120000000000000101#72 none = .ok (.aRx 0x01#8)

/-- `decode_reg`: three offsets, compared on all 32 bits, and everything else INVALID; the index of a
register is a quarter of its offset (R73). -/
def Obligations.OffsetDecodeComparesAllBits : Prop :=
  ∀ o : Word,
    (decodeReg o = .ctrl ↔ o = 0x00000000#32) ∧ (decodeReg o = .status ↔ o = 0x00000004#32) ∧
    (decodeReg o = .data ↔ o = 0x00000008#32) ∧
    (decodeReg o = .invalid ↔ o ≠ 0x00000000#32 ∧ o ≠ 0x00000004#32 ∧ o ≠ 0x00000008#32) ∧
    (decodeReg o = .ctrl → o.toNat / 4 = 0) ∧ (decodeReg o = .status → o.toNat / 4 = 1) ∧
    (decodeReg o = .data → o.toNat / 4 = 2)

/-- A word of reserved kind has no step (R72, R77 item 4; that a step answers it as a fault is the model's
choice, log entry 3). -/
def Obligations.ReservedKindHasNoStep : Prop :=
  ∀ (s : State) (w : OpWord) (b : Option Snapshot) (rest : List Request),
    s.schedule = .op w b :: rest →
    (0x08 < (kindOf w).toNat ∧ (kindOf w).toNat < 0x10 ∨ 0x14 < (kindOf w).toNat) →
    step s = .fault (.reservedKind (kindOf w))

/-! ### The step (R63; the schedule is the model's, log entry 1) -/

/-- When the next entry of the total order decodes to an instruction, the step is the execution of it,
with that entry taken off the schedule. -/
def Obligations.StepExecutesTheDecodedInstruction : Prop :=
  ∀ (s : State) (w : OpWord) (b : Option Snapshot) (rest : List Request) (i : Instr),
    s.schedule = .op w b :: rest → decode w b = .ok i →
    step s = exec i { s with schedule := rest }

/-- With nothing scheduled, a running timer counts one clock and a block that does not run is quiescent
(R118, R236; that the timer's clock is what then happens is the model's reading, log entry 2). -/
def Obligations.StepAloneCountsTheTimer : Prop :=
  ∀ s : State, s.schedule = [] →
    (s.trsLive = true → s.trs.timerRunning = true → step s = exec .timerclk s) ∧
    (s.trsLive = false ∨ s.trs.timerRunning = false → step s = .fault .quiescent)

/-- What the boundary does with a bus access: 4 bytes wide and aligned it is the `RD` or `WR` of its
offset; narrow, wide, misaligned accesses and fetches are refused (R53, R54, R65; the order of the
checks is the model's, log entry 13). -/
def Obligations.BoundaryForwardsAlignedWordsOnly : Prop :=
  ∀ (s : State) (a : BusAccess) (rest : List Request), s.schedule = .access a :: rest →
    (a.kind = .fetch → step s = .refused .fetchFromWindow) ∧
    (a.kind ≠ .fetch → a.width ≠ 4 → step s = .refused .accessWidth) ∧
    (a.kind ≠ .fetch → a.width = 4 → a.offset.toNat % 4 ≠ 0 → step s = .refused .misalignedAccess) ∧
    (a.kind = .read → a.width = 4 → a.offset.toNat % 4 = 0 →
      step s = exec (if a.offset = 0x00#32 then .rdCtrl else if a.offset = 0x04#32 then .rdStatus
        else if a.offset = 0x08#32 then .rdData else .rdInvalid a.offset) { s with schedule := rest }) ∧
    (a.kind = .write → a.width = 4 → a.offset.toNat % 4 = 0 →
      step s = exec (if a.offset = 0x00#32 then .wrCtrl a.value
        else if a.offset = 0x04#32 then .wrStatus a.value
        else if a.offset = 0x08#32 then .wrData a.value else .wrInvalid a.offset a.value)
        { s with schedule := rest })

/-- In the little-endian byte view of the window, DATA.SAMPLE is the byte at offset 8, and byte n of a
register is bits 8n+7 to 8n (R55; the view is no operation, log entry 14). -/
def Obligations.LittleEndianByteView : Prop :=
  ∀ (t : Trs) (n : Nat), n < 4 →
    windowByte .little t (BitVec.ofNat 32 n) = t.ctrl.extractLsb' (8 * n) 8 ∧
    windowByte .little t (BitVec.ofNat 32 (4 + n)) = t.status.extractLsb' (8 * n) 8 ∧
    windowByte .little t (BitVec.ofNat 32 (8 + n)) = t.data.extractLsb' (8 * n) 8

/-! ### Reset and the invariants (`spec/10_state.md`) -/

/-- The values after power-on and after reset, in the state after reset and in the state either
operation leaves: registers zero, `STOPPED`, the count at `TICK_PERIOD`, `irq` 0, `ext` untouched (R32;
the stopped timer, the count and the level of `irq` are the spec's decisions D4, D12 and D5, and that the
state after reset is that of both events is log entry 4; a `POWERON` of a live block is log entry 10). -/
def Obligations.InitialValuesAfterPowerOnAndReset : Prop :=
  State.reset.trs = ⟨0#32, 0#32, 0#32, false, Config.tickPeriod⟩ ∧ State.reset.irq = false ∧
  ∀ s : State,
    (∃ t, exec .poweron s = .next t ∧ t.trs = ⟨0#32, 0#32, 0#32, false, Config.tickPeriod⟩ ∧
      t.irq = false ∧ t.ext = s.ext) ∧
    (s.trsLive = true → ∃ t, exec .reset s = .next t ∧
      t.trs = ⟨0#32, 0#32, 0#32, false, Config.tickPeriod⟩ ∧ t.irq = false ∧ t.ext = s.ext)

/-- The invariants of R28 hold in the state after reset (R28 is the spec's derivation; the state is log
entry 4's). -/
def Obligations.InvHoldsAfterReset : Prop := State.reset.Inv

/-- Every step from a state with the invariants of R28, reachable or not, leaves a state with them,
whatever is scheduled (R28 is the spec's derivation; the rules it is derived from rest on its decisions D2,
that reserved bits are 0, D4, that a reset stops the timer, D13, that a tick stores the low byte, and D15,
that an ill-formed snapshot is refused). -/
def Obligations.EveryStepKeepsInv : Prop :=
  ∀ s t : State, s.Inv → step s = .next t → t.Inv

/-- In every state reachable from the state after reset, by whatever sequence of operations of all agents,
the invariants of R28 hold (R28 is the spec's derivation, from rules that rest on its decisions D2, D4, D13
and D15; that a sequence of operations stands in the schedule is log entry 1). -/
def Obligations.InvHoldsInEveryReachableState : Prop :=
  ∀ (n : Nat) (ops : List Request) (t : State),
    Host.Core.run Sys2Proof.core n { State.reset with schedule := ops } = .next t →
    (t.trs.timerRunning = true ↔ t.trs.ctrl.getLsbD 0 = true) ∧ t.trs.ctrl.toNat ≤ 0x3 ∧
    (t.trs.status = 0x00000000#32 ∨ t.trs.status = 0x00000002#32) ∧ t.trs.data.toNat ≤ 0xFF ∧
    (t.trs.status = 0#32 → t.trs.data = 0#32)

/-! ### Reads (`spec/40_register_read.md`) -/

/-- A `RD` word, whatever its `wdata`, is read and returns what the window holds at its offset in the
state before; nothing else changes and `irq` does not (R90). -/
def Obligations.RdReturnsTheWindowValue : Prop :=
  ∀ (s : State) (o d : Word) (b : Option Snapshot), s.trsLive = true →
    ∃ i t, decode (pack 0x00#8 o d) b = .ok i ∧ exec i s = .next t ∧
      t = { s with
        result := .rdata (if o = 0x00000000#32 then s.trs.ctrl
          else if o = 0x00000004#32 then s.trs.status
          else if o = 0x00000008#32 then s.trs.data else oorReadValue) } ∧
      t.irq = s.irq

/-- The four read forms complete with the register, or with 0 at an invalid offset (R91 to R94; that
`OOR_READ_VALUE` is 0 is the spec's decision D6). -/
def Obligations.ReadFormsReturnTheirRegister : Prop :=
  ∀ s : State, s.trsLive = true →
    exec .rdCtrl s = .next { s with result := .rdata s.trs.ctrl } ∧
    exec .rdStatus s = .next { s with result := .rdata s.trs.status } ∧
    exec .rdData s = .next { s with result := .rdata s.trs.data } ∧
    ∀ o : Word, o ≠ 0x00#32 → o ≠ 0x04#32 → o ≠ 0x08#32 →
      exec (.rdInvalid o) s = .next { s with result := .rdata 0x00000000#32 }

/-- Reads have no side effect, for every offset: no register, no timer, no `irq`, no byte of the window
changes, and two reads with nothing between them return the same value (R57, the spec's decision D30). -/
def Obligations.ReadsHaveNoSideEffect : Prop :=
  ∀ (i : Instr) (s t : State),
    (i = .rdCtrl ∨ i = .rdStatus ∨ i = .rdData ∨ ∃ o, i = .rdInvalid o) → exec i s = .next t →
    t = { s with result := t.result } ∧ t.irq = s.irq ∧ exec i t = .next t ∧
    ∀ (e : Endian) (a : Word), windowByte e t.trs a = windowByte e s.trs a

/-! ### Writes (`spec/41_register_write.md`) -/

/-- `WR.CTRL`: bits 1:0 stored, the timer started with a full period if EN is now set and it was
stopped, kept running with its count if it ran, stopped if EN is now clear; STATUS and DATA kept;
`irq` follows (R101; that `irq` follows in every branch, and the reload, are the spec's decisions D3 and
D12). -/
def Obligations.WrCtrlStoresTwoBitsAndRunsItsHook : Prop :=
  ∀ (s : State) (v : Word) (b : Option Snapshot), s.trsLive = true →
    decode (pack 0x01#8 0x00000000#32 v) b = .ok (.wrCtrl v) ∧
    ∃ t, exec (.wrCtrl v) s = .next t ∧
      t = { s with
        trs := { s.trs with
          ctrl := v &&& 0x00000003#32
          timerRunning := v.getLsbD 0
          timerCount :=
            if v.getLsbD 0 = true ∧ s.trs.timerRunning = false then Config.tickPeriod
            else s.trs.timerCount }
        result := .nothing } ∧
      t.irq = (v.getLsbD 0 && v.getLsbD 1 && s.trs.status.getLsbD 1)

/-- Writing the same value to CTRL twice in succession leaves the same state as writing it once (R103, derived
by the spec from R101). -/
def Obligations.WritingCtrlTwiceIsWritingItOnce : Prop :=
  ∀ (s t : State) (v : Word), exec (.wrCtrl v) s = .next t → exec (.wrCtrl v) t = .next t

/-- `WR.STATUS` changes no bit of STATUS and nothing else: no write clears or sets IFG (R104). -/
def Obligations.WrStatusChangesNothing : Prop :=
  ∀ (s : State) (v : Word) (b : Option Snapshot), s.trsLive = true →
    decode (pack 0x01#8 0x00000004#32 v) b = .ok (.wrStatus v) ∧
    ∃ t, exec (.wrStatus v) s = .next t ∧ t = { s with result := .nothing } ∧ t.irq = s.irq

/-- `WR.DATA` is dropped (R105). -/
def Obligations.WrDataIsDropped : Prop :=
  ∀ (s : State) (v : Word) (b : Option Snapshot), s.trsLive = true →
    decode (pack 0x01#8 0x00000008#32 v) b = .ok (.wrData v) ∧
    ∃ t, exec (.wrData v) s = .next t ∧ t = { s with result := .nothing } ∧ t.irq = s.irq

/-- `WR.INVALID`: a write of every other offset is dropped; nothing aliases a register (R106). -/
def Obligations.WrInvalidIsDropped : Prop :=
  ∀ (s : State) (o v : Word) (b : Option Snapshot), s.trsLive = true →
    o ≠ 0x00#32 → o ≠ 0x04#32 → o ≠ 0x08#32 →
    decode (pack 0x01#8 o v) b = .ok (.wrInvalid o v) ∧
    ∃ t, exec (.wrInvalid o v) s = .next t ∧ t = { s with result := .nothing } ∧ t.irq = s.irq

/-- Frame of the reads, of `SAVE` and of the writes that store nothing: when one answers a next state,
only the result may differ. -/
def Obligations.FrameOfReadsSaveAndDroppedWrites : Prop :=
  ∀ (i : Instr) (s t : State),
    (i = .rdCtrl ∨ i = .rdStatus ∨ i = .rdData ∨ (∃ o, i = .rdInvalid o) ∨ (∃ v, i = .wrStatus v) ∨
      (∃ v, i = .wrData v) ∨ (∃ o v, i = .wrInvalid o v) ∨ i = .save) →
    exec i s = .next t →
    t.trs = s.trs ∧ t.trsLive = s.trsLive ∧ t.ars = s.ars ∧ t.arsLive = s.arsLive ∧
    t.ext = s.ext ∧ t.schedule = s.schedule ∧ t.irq = s.irq ∧
    ∀ (e : Endian) (a : Word), windowByte e t.trs a = windowByte e s.trs a

/-- Frame of `WR.CTRL`: STATUS, DATA, the companion device, the source and every byte of the window
outside CTRL's four are unchanged. -/
def Obligations.FrameOfWrCtrl : Prop :=
  ∀ (v : Word) (s t : State), exec (.wrCtrl v) s = .next t →
    t.trs.status = s.trs.status ∧ t.trs.data = s.trs.data ∧ t.trsLive = s.trsLive ∧
    t.ars = s.ars ∧ t.arsLive = s.arsLive ∧ t.ext = s.ext ∧ t.schedule = s.schedule ∧
    ∀ (e : Endian) (a : Word), 4 ≤ a.toNat → windowByte e t.trs a = windowByte e s.trs a

/-! ### The timer (`spec/42_timer_irq.md`) -/

/-- `TICK` of a running timer: DATA takes the low 8 bits of the source, IFG is set, CTRL, the timer and
its count are kept, and `irq` is 1 exactly if EN and IEN are (R116; that only the low 8 bits are stored is
the spec's decision D13, that an unavailable source reads as 0 its D14, the function `irq` of the registers
its D3). -/
def Obligations.TickSamplesAndSetsIfg : Prop :=
  ∀ (s : State) (b : Option Snapshot), s.trsLive = true → s.trs.timerRunning = true →
    decode 0x020000000000000000#72 b = .ok .tick ∧
    ∃ t, exec .tick s = .next t ∧
      t = { s with
        trs := { s.trs with
          data := s.ext.getD 0#32 &&& 0x000000FF#32
          status := s.trs.status ||| 0x00000002#32 }
        result := .nothing } ∧
      t.irq = (s.trs.ctrl.getLsbD 0 && s.trs.ctrl.getLsbD 1)

/-- `TICK` of a stopped timer has no step, and only of a stopped one (R123, the spec's decision D29; that no
step is answered as a fault is the model's choice, log entry 3). -/
def Obligations.TickOfAStoppedTimerHasNoStep : Prop :=
  ∀ s : State, s.trsLive = true →
    (exec .tick s = .fault .tickWhileStopped ↔ s.trs.timerRunning = false)

/-- `TIMERCLK`: at count 1 the count is reloaded and the tick happens in the same step, above 1 the count
goes down by one, and a stopped timer is frozen (R118; the counter is the spec's decisions D11 and D12;
what the tick stores is R116, decisions D13 and D14; a count of 0, which the invariants exclude, stays 0 by
log entry 12). -/
def Obligations.TimerclkCountsDownAndTicks : Prop :=
  ∀ (s : State) (b : Option Snapshot), s.trsLive = true →
    decode 0x030000000000000000#72 b = .ok .timerclk ∧
    exec .timerclk s = .next
      (if s.trs.timerRunning = true then
        if s.trs.timerCount = 1 then
          { s with
            trs := { s.trs with
              data := s.ext.getD 0#32 &&& 0x000000FF#32
              status := s.trs.status ||| 0x00000002#32
              timerCount := Config.tickPeriod }
            result := .nothing }
        else { s with trs := { s.trs with timerCount := s.trs.timerCount - 1 }, result := .nothing }
      else { s with result := .nothing })

/-- Frame of `TICK` and `TIMERCLK`: CTRL, whether the timer runs, the companion device, the source and every
byte of the window outside STATUS and DATA are unchanged; a `TICK` keeps the timer's count too (a `TIMERCLK`
of a running timer changes it). -/
def Obligations.FrameOfTheTimerOperations : Prop :=
  ∀ (i : Instr) (s t : State), (i = .tick ∨ i = .timerclk) → exec i s = .next t →
    t.trs.ctrl = s.trs.ctrl ∧ t.trs.timerRunning = s.trs.timerRunning ∧
    (i = .tick → t.trs.timerCount = s.trs.timerCount) ∧ t.trsLive = s.trsLive ∧ t.ars = s.ars ∧
    t.arsLive = s.arsLive ∧ t.ext = s.ext ∧ t.schedule = s.schedule ∧
    ∀ (e : Endian) (a : Word), a.toNat < 4 ∨ 12 ≤ a.toNat →
      windowByte e t.trs a = windowByte e s.trs a

/-- A running timer left alone: for each number of clocks below the count nothing but the count has
changed, and at the count the tick happens and the period begins again (R118, R119, the spec's decision
D12; that the tick stores the low byte of the source is R116, its decision D13, held by log entry 11, and
that an unavailable source reads as 0 its D14; that a step with nothing scheduled is a timer clock is log
entry 2; the premise on the count is part of the invariant). -/
def Obligations.RunningTimerTicksWhenItsCountIsOut : Prop :=
  ∀ s : State, s.trsLive = true → s.trs.timerRunning = true → 1 ≤ s.trs.timerCount →
    (∀ j, j < s.trs.timerCount → ∃ t, runAlone j s = .next t ∧
      t.trs = { s.trs with timerCount := s.trs.timerCount - j } ∧ t.ext = s.ext) ∧
    ∃ t, runAlone s.trs.timerCount s = .next t ∧
      t.trs = { s.trs with
        data := s.ext.getD 0#32 &&& 0x000000FF#32
        status := s.trs.status ||| 0x00000002#32
        timerCount := Config.tickPeriod } ∧ t.ext = s.ext

/-- The period law over undisturbed clocks: from a write of CTRL that starts the timer, the k-th tick comes at
the (k * `TICK_PERIOD`)-th timer clock, and the clocks from one tick to the next leave DATA and STATUS as the
last tick left them; the write itself samples nothing (R119, the spec's decision D12; that a tick stores the
low byte of the source is R116, its decision D13, held by log entry 11, and that an unavailable source reads
as 0 its D14; that a step with nothing scheduled is a timer clock is log entry 2). The source does not change
meanwhile, so from the second tick on the reloaded count alone shows that it came; that the clock at count 1
samples is `TimerclkCountsDownAndTicks`. -/
def Obligations.TicksComeEveryTickPeriodFromTheStart : Prop :=
  ∀ (s u : State) (v : Word), exec (.wrCtrl v) s = .next u →
    s.trs.timerRunning = false → v.getLsbD 0 = true →
    u.trs.data = s.trs.data ∧ u.trs.status = s.trs.status ∧
    (∀ j, j < Config.tickPeriod → ∃ t, runAlone j u = .next t ∧
      t.trs.data = s.trs.data ∧ t.trs.status = s.trs.status) ∧
    ∀ k j, 1 ≤ k → j < Config.tickPeriod → ∃ t,
      runAlone (k * Config.tickPeriod + j) u = .next t ∧
      t.trs.data = s.ext.getD 0#32 &&& 0x000000FF#32 ∧
      t.trs.status = s.trs.status ||| 0x00000002#32 ∧
      t.trs.timerCount = Config.tickPeriod - j

/-- The interrupt is asserted exactly if CTRL.EN, CTRL.IEN and STATUS.IFG are all set, in every state of an
instantiated block, so after every operation whatever (R194). -/
def Obligations.IrqIsTheAndOfThreeBits : Prop :=
  ∀ s : State, s.trsLive = true →
    (s.irq = true ↔ s.trs.ctrl.getLsbD 0 = true ∧ s.trs.ctrl.getLsbD 1 = true ∧
      s.trs.status.getLsbD 1 = true)

/-- Where `irq` can rise and where it can fall, over all operations (R121, derived by the spec; that `irq` is
at all times a function of the registers is its decision D3; that a `POWERON` of a live block can lower it is
the model's reading, log entry 10). -/
def Obligations.IrqChangesOnlyWhereTheTableSays : Prop :=
  ∀ (i : Instr) (s t : State), exec i s = .next t →
    (s.irq = false → t.irq = true →
      (∃ v, i = .wrCtrl v) ∨ i = .tick ∨ (i = .timerclk ∧ s.trs.timerCount = 1) ∨
        ∃ n, i = .restore n) ∧
    (s.irq = true → t.irq = false →
      (∃ v, i = .wrCtrl v) ∨ i = .reset ∨ i = .poweron ∨ ∃ n, i = .restore n)

/-! ### System operations (`spec/43_system_ops.md`, `spec/70_reset_and_hazards.md`) -/

/-- `SAVE` yields the five fields of the state and changes none of them, nor `irq`; from a state with the
invariants of R28 the snapshot is well-formed (R136). -/
def Obligations.SaveYieldsTheStateUnchanged : Prop :=
  ∀ (s : State) (b : Option Snapshot), s.trsLive = true →
    decode 0x060000000000000000#72 b = .ok .save ∧
    ∃ t, exec .save s = .next t ∧
      t = { s with
        result := .snapshot
          ⟨s.trs.ctrl, s.trs.status, s.trs.data, s.trs.timerRunning, s.trs.timerCount⟩ } ∧
      t.irq = s.irq ∧
      (s.Inv → ∀ n, t.result = .snapshot n → n.wellFormed = true)

/-- `RESTORE` of a well-formed snapshot writes its five fields verbatim, with no hook; `irq` is that of the
restored registers (R137, the spec's decisions D15 and, for `irq`, D3). -/
def Obligations.RestoreWritesTheSnapshotVerbatim : Prop :=
  ∀ (s : State) (n : Snapshot), s.trsLive = true → n.wellFormed = true →
    decode 0x070000000000000000#72 (some n) = .ok (.restore n) ∧
    ∃ t, exec (.restore n) s = .next t ∧
      t = { s with
        trs := ⟨n.x0, n.x1, n.x2, n.timerRunning, n.timerCount⟩
        result := .nothing } ∧
      t.irq = (n.x0.getLsbD 0 && n.x0.getLsbD 1 && n.x1.getLsbD 1)

/-- A snapshot is well-formed exactly under the six conditions of R135, and `RESTORE` refuses every other
one (R135, R137; the spec's decision D15). -/
def Obligations.RestoreRefusesIllFormedSnapshots : Prop :=
  ∀ (s : State) (n : Snapshot), s.trsLive = true →
    (exec (.restore n) s = .refused .illFormedSnapshot ↔
      ¬ (n.x0.toNat ≤ 0x3 ∧ (n.x1 = 0#32 ∨ n.x1 = 2#32) ∧ n.x2.toNat ≤ 0xFF ∧
        (n.x1 = 0#32 → n.x2 = 0#32) ∧ n.timerRunning = n.x0.getLsbD 0 ∧
        1 ≤ n.timerCount ∧ n.timerCount ≤ Config.tickPeriod))

/-- Save, anything, restore: from a state with the invariants of R28, what `SAVE` yields is well-formed and
restores the same state of the block, with the same `irq`, over any live state (R138, derived by the
spec from R136 and R137; the snapshot and its form are its decision D15, the function `irq` of the
registers its D3). -/
def Obligations.SaveThenRestoreGivesTheStateBack : Prop :=
  ∀ s t : State, s.Inv → s.trsLive = true → t.trsLive = true →
    ∃ n u v, exec .save s = .next u ∧ u.result = .snapshot n ∧ n.wellFormed = true ∧
      exec (.restore n) t = .next v ∧ v.trs = s.trs ∧ v.irq = s.irq

/-- `EXTSET v`: the source takes the value; no state of either device and no `irq` changes (R139, the spec's
decision D14; that it completes also where no device is instantiated is the model's choice, log entry 9). -/
def Obligations.ExtsetSetsTheSourceOnly : Prop :=
  ∀ (s : State) (v : Word) (b : Option Snapshot),
    decode (pack 0x08#8 0x00000000#32 v) b = .ok (.extset v) ∧
    ∃ t, exec (.extset v) s = .next t ∧ t = { s with ext := some v, result := .nothing } ∧
      t.irq = s.irq

/-- `RESET`: registers zeroed, timer `STOPPED`, count loaded, `ext` untouched, `irq` 0 (R222; that it stops
the timer is the spec's decision D4, with the deviation of R223). -/
def Obligations.ResetZeroesAndStops : Prop :=
  ∀ (s : State) (b : Option Snapshot), s.trsLive = true →
    decode 0x040000000000000000#72 b = .ok .reset ∧
    ∃ t, exec .reset s = .next t ∧
      t = { s with trs := ⟨0#32, 0#32, 0#32, false, Config.tickPeriod⟩, result := .nothing } ∧
      t.irq = false

/-- `POWERON`: the block is created with registers zeroed, `STOPPED` and the count loaded, from any state,
also one without a block; before it no operation of the block has a step (R220; the count is the spec's
decision D12, the level of `irq` its D5; log entries 3, 9, 10). -/
def Obligations.PoweronCreatesTheBlock : Prop :=
  ∀ (s : State) (b : Option Snapshot),
    decode 0x050000000000000000#72 b = .ok .poweron ∧
    (∃ t, exec .poweron s = .next t ∧
      t = { s with
        trs := ⟨0#32, 0#32, 0#32, false, Config.tickPeriod⟩, trsLive := true, result := .nothing } ∧
      t.irq = false) ∧
    (s.trsLive = false → ∀ i : Instr, i.device = .trs → i ≠ .poweron →
      exec i s = .fault .trsAbsent)

/-- Frame of the host's and the external writer's operations: reset, power-on and restore leave the
companion device and the source, `EXTSET` leaves both devices, and none touches what is scheduled. -/
def Obligations.FrameOfTheSystemOperations : Prop :=
  ∀ (i : Instr) (s t : State), exec i s = .next t →
    ((i = .reset ∨ i = .poweron ∨ ∃ n, i = .restore n) →
      t.ars = s.ars ∧ t.arsLive = s.arsLive ∧ t.ext = s.ext ∧ t.schedule = s.schedule ∧
      (i = .poweron ∨ t.trsLive = s.trsLive)) ∧
    ((∃ v, i = .extset v) →
      t.trs = s.trs ∧ t.trsLive = s.trsLive ∧ t.ars = s.ars ∧ t.arsLive = s.arsLive ∧
      t.schedule = s.schedule ∧ ∀ (e : Endian) (a : Word),
        windowByte e t.trs a = windowByte e s.trs a)

/-! ### The companion device (`spec/45_addressed_slave.md`) -/

/-- `A.EVENT START_RECEIVE`: with the pointer at DATA, DATA takes the source's low byte if enable is set
and 0 if it is clear; with any other pointer DATA is kept; `transferCount` is 0 after (R160; that an
unavailable source reads as 0 is the spec's decision D14, held by log entry 5). -/
def Obligations.StartReceiveRefreshesData : Prop :=
  ∀ (s : State) (b : Option Snapshot), s.arsLive = true →
    decode 0x100000000000000000#72 b = .ok .aEventStartReceive ∧
    exec .aEventStartReceive s = .next { s with
      ars := { s.ars with
        data :=
          if s.ars.pointer = 1#8 then
            if s.ars.ctrl.getLsbD 0 = true then (s.ext.getD 0#32).extractLsb' 0 8 else 0x00#8
          else s.ars.data
        transferCount := .needAddress }
      result := .success }

/-- `A.EVENT` of every other kind only clears `transferCount`, and succeeds (R161, the spec's decision
D26). -/
def Obligations.OtherEventsOnlyEndTheTransfer : Prop :=
  ∀ (s : State) (k : Word) (b : Option Snapshot), s.arsLive = true → k ≠ 0#32 →
    decode (pack 0x10#8 k 0#32) b = .ok (.aEventOther k) ∧
    exec (.aEventOther k) s = .next { s with
      ars := { s.ars with transferCount := .needAddress }
      result := .success }

/-- `A.TX`: the selected register and the pointer advanced, or the sentinel 0xFF and nothing changed
(R162). -/
def Obligations.TransmitReturnsTheSelectedRegister : Prop :=
  ∀ (s : State) (b : Option Snapshot), s.arsLive = true →
    decode 0x110000000000000000#72 b = .ok .aTx ∧
    exec .aTx s = .next
      (if 2 ≤ s.ars.pointer.toNat then { s with result := .byte 0xFF#8 }
       else { s with
        ars := { s.ars with pointer := s.ars.pointer + 1 }
        result := .byte (if s.ars.pointer = 0#8 then s.ars.ctrl else s.ars.data) })

/-- `A.RX b`: the first byte after an event is the address byte; a data byte is stored whole in CTRL if the
pointer is 0, which then becomes 1, and dropped otherwise (R163; that the whole byte is stored is the spec's
decision D25); the upper bits of `wdata` are ignored (R82, the spec's decision D16). -/
def Obligations.ReceiveTakesAddressThenData : Prop :=
  ∀ (s : State) (d : Word) (b : Option Snapshot), s.arsLive = true →
    decode (pack 0x12#8 0x00000000#32 d) b = .ok (.aRx (d.extractLsb' 0 8)) ∧
    ∀ v : Byte, exec (.aRx v) s = .next { s with
      ars :=
        if s.ars.transferCount = .needAddress then
          { s.ars with pointer := v, transferCount := .needData }
        else if s.ars.pointer = 0#8 then { s.ars with ctrl := v, pointer := 1#8 }
        else s.ars
      result := .success }

/-- `A.RESET` zeroes the registers and `transferCount` and keeps the pointer (R165; the pointer is the
spec's decision D24). -/
def Obligations.ArsResetKeepsThePointer : Prop :=
  ∀ (s : State) (b : Option Snapshot), s.arsLive = true →
    decode 0x130000000000000000#72 b = .ok .aReset ∧
    exec .aReset s = .next { s with
      ars := ⟨0x00#8, 0x00#8, .needAddress, s.ars.pointer⟩, result := .nothing }

/-- `A.POWERON` creates the device with everything zero, from any state (R164; the pointer is the spec's
decision D24; a device that is live already is log entry 10). -/
def Obligations.ArsPoweronZeroesEverything : Prop :=
  ∀ (s : State) (b : Option Snapshot),
    decode 0x140000000000000000#72 b = .ok .aPoweron ∧
    exec .aPoweron s = .next { s with
      ars := ⟨0x00#8, 0x00#8, .needAddress, 0x00#8⟩, arsLive := true, result := .nothing }

/-- Frame of the companion device's operations: the sensor, the source, what is scheduled and, per
operation, the registers its rule does not name are unchanged (R160 to R163, R165; that every event but
`START_RECEIVE` keeps the registers is the spec's decision D26, and that `A.RESET` keeps the pointer its
decision D24, both held by log entry 11). -/
def Obligations.FrameOfTheCompanionDevice : Prop :=
  ∀ (i : Instr) (s t : State), i.device = .ars → exec i s = .next t →
    t.trs = s.trs ∧ t.trsLive = s.trsLive ∧ t.irq = s.irq ∧ t.ext = s.ext ∧
    t.schedule = s.schedule ∧ (i = .aPoweron ∨ t.arsLive = s.arsLive) ∧
    (i = .aEventStartReceive → t.ars.ctrl = s.ars.ctrl ∧ t.ars.pointer = s.ars.pointer) ∧
    ((∃ k, i = .aEventOther k) → t.ars.ctrl = s.ars.ctrl ∧ t.ars.data = s.ars.data ∧
      t.ars.pointer = s.ars.pointer) ∧
    (i = .aTx → t.ars.ctrl = s.ars.ctrl ∧ t.ars.data = s.ars.data ∧
      t.ars.transferCount = s.ars.transferCount) ∧
    ((∃ b, i = .aRx b) → t.ars.data = s.ars.data) ∧
    (i = .aReset → t.ars.pointer = s.ars.pointer) ∧
    ∀ (e : Endian) (a : Word), windowByte e t.trs a = windowByte e s.trs a

/-- The two canonical transactions, performed operation by operation: the enable sequence leaves CTRL at
0x01, and the read sequence on an enabled device returns the source's low byte (R166; the event codes and
what the two events other than `START_RECEIVE` do are the spec's decision D26, the whole byte stored its
D25, an unavailable source reading as 0 its D14; the schedule is log entry 1). -/
def Obligations.CanonicalTransactions : Prop :=
  ∀ s : State, s.arsLive = true →
    (∃ t, runOps [.aEventOther 1#32, .aRx 0x00#8, .aRx 0x01#8, .aEventOther 2#32] s = .next t ∧
      t.ars.ctrl = 0x01#8) ∧
    (s.ars.ctrl.getLsbD 0 = true → ∃ t u,
      runOps [.aEventOther 1#32, .aRx 0x01#8, .aEventStartReceive, .aTx] s = .next t ∧
      t.result = .byte ((s.ext.getD 0#32).extractLsb' 0 8) ∧
      runOps [.aEventOther 2#32] t = .next u ∧ u.ars.transferCount = .needAddress)

/-- Past the last register a transmit request returns the sentinel, and so does every later one until a byte
addresses the device again: any number of requests in a row, and a request after any operations of any
agents, events, data bytes and resets among them, that send no address byte and do not create the device
afresh (R162 for the requests; that data bytes past CTRL are dropped is R163, that every event keeps the
pointer R160 and R161, the latter the spec's decision D26, and that `A.RESET` keeps it R165, the spec's
decision D24, held by log entry 11; that a sequence of operations stands in the schedule is log entry 1). -/
def Obligations.SentinelUntilReaddressed : Prop :=
  ∀ (s : State) (n : Nat), s.arsLive = true → 2 ≤ s.ars.pointer.toNat →
    (∃ t, runOps (List.replicate (n + 1) .aTx) s = .next t ∧
      t.result = .byte 0xFF#8 ∧ t.ars = s.ars) ∧
    ∀ (ops : List Instr) (u : State), (∀ i ∈ ops, i.wellFormed = true) →
      noAddressByte s.ars.transferCount ops = true → runOps ops s = .next u →
      u.ars.pointer = s.ars.pointer ∧ exec .aTx u = .next { u with result := .byte 0xFF#8 }

/-- A sequential read that starts at CTRL returns CTRL, then DATA as it stood, not a fresh sample, then the
sentinel (R170, derived by the spec from R160, R162 and R163; the code of `START_TRANSMIT` is its decision
D26; the schedule is log entry 1). -/
def Obligations.SequentialReadFromCtrlIsStale : Prop :=
  ∀ s : State, s.arsLive = true → ∃ t u v,
    runOps [.aEventOther 1#32, .aRx 0x00#8, .aEventStartReceive, .aTx] s = .next t ∧
    t.result = .byte s.ars.ctrl ∧ runOps [.aTx] t = .next u ∧ u.result = .byte s.ars.data ∧
    runOps [.aTx] u = .next v ∧ v.result = .byte 0xFF#8

/-- Save and restore of the companion device: the whole record, written back raw (R169; these two have no
operation word, log entry 16). -/
def Obligations.ArsSaveAndRestoreAreVerbatim : Prop :=
  ∀ (s : State) (n : Ars) (rest : List Request), s.arsLive = true →
    (s.schedule = .arsSave :: rest →
      step s = .next { s with result := .arsSnapshot s.ars, schedule := rest }) ∧
    (s.schedule = .arsRestore n :: rest →
      step s = .next { s with ars := n, result := .nothing, schedule := rest })

/-! ### The whole machine -/

/-- Every operation completes on instantiated devices, a `TICK` of a stopped timer and a `RESTORE` of an
ill-formed snapshot apart; none raises an exception (R190, R167, R12; that a `POWERON` and an `A.POWERON` of
a live device complete is the model's reading, log entry 10). -/
def Obligations.EveryOperationCompletes : Prop :=
  ∀ (i : Instr) (s : State), s.trsLive = true → s.arsLive = true →
    (i = .tick → s.trs.timerRunning = true) → (∀ n, i = .restore n → n.wellFormed = true) →
    ∃ t, exec i s = .next t

/-- Who sets and who clears IFG, who writes DATA and CTRL, and who starts or stops the timer, over all
operations (R25, R115, R116, R233; that `RESET` stops the timer is the spec's decision D4; that power-on of a
live block clears too is the model's reading, log entry 10). -/
def Obligations.WhoWritesTheRegisters : Prop :=
  ∀ (i : Instr) (s t : State), exec i s = .next t →
    (s.trs.status.getLsbD 1 = false → t.trs.status.getLsbD 1 = true →
      i = .tick ∨ (i = .timerclk ∧ s.trs.timerRunning = true ∧ s.trs.timerCount = 1) ∨
        ∃ n, i = .restore n) ∧
    (s.trs.status.getLsbD 1 = true → t.trs.status.getLsbD 1 = false →
      i = .reset ∨ i = .poweron ∨ ∃ n, i = .restore n) ∧
    (t.trs.data ≠ s.trs.data →
      i = .tick ∨ i = .timerclk ∨ i = .reset ∨ i = .poweron ∨ ∃ n, i = .restore n) ∧
    (t.trs.ctrl ≠ s.trs.ctrl →
      (∃ v, i = .wrCtrl v) ∨ i = .reset ∨ i = .poweron ∨ ∃ n, i = .restore n) ∧
    (t.trs.timerRunning ≠ s.trs.timerRunning →
      (∃ v, i = .wrCtrl v) ∨ i = .reset ∨ i = .poweron ∨ ∃ n, i = .restore n)

/-- A timer that is stopped stays stopped, and DATA and STATUS are not written but to be zeroed, until a
write sets EN or a snapshot is restored: no tick after a stop (R63 item 3, R119, the spec's decision D12, and
R123, its decision D29, which rests on D4; the schedule is log entry 1, a `TICK` in it stops the run by log
entry 3). -/
def Obligations.NoTickUntilEnIsSetAgain : Prop :=
  ∀ (ops : List Instr) (s t : State), s.trs.timerRunning = false →
    (∀ i ∈ ops, i.wellFormed = true ∧ (∀ v, i = .wrCtrl v → v.getLsbD 0 = false) ∧
      (∀ n, i ≠ .restore n)) →
    runOps ops s = .next t →
    t.trs.timerRunning = false ∧
    (t.trs.data = s.trs.data ∧ t.trs.status = s.trs.status ∨
      t.trs.data = 0#32 ∧ t.trs.status = 0#32)

/-- Only `EXTSET` writes the source, and no operation touches what is scheduled (R30, R139). -/
def Obligations.OnlyExtsetWritesTheSource : Prop :=
  ∀ (i : Instr) (s t : State), exec i s = .next t →
    t.schedule = s.schedule ∧ (t.ext ≠ s.ext → ∃ v, i = .extset v)

/-- Only `ext[7:0]` can ever reach a register: two states that differ in the other bits of the source have
the same outcome but for the source itself (R30). -/
def Obligations.OnlyTheLowByteOfTheSourceIsSeen : Prop :=
  ∀ (i : Instr) (s t : State) (v : Word), exec i s = .next t →
    v.extractLsb' 0 8 = (s.ext.getD 0#32).extractLsb' 0 8 →
    ∃ u, exec i { s with ext := some v } = .next u ∧
      u.trs = t.trs ∧ u.ars = t.ars ∧ u.result = t.result ∧ u.irq = t.irq

/-- The two devices share no state: an operation of either does the same whatever the other holds, and
leaves the other as it is (R3, R150). -/
def Obligations.TheDevicesAreIndependent : Prop :=
  ∀ (i : Instr) (s t : State), exec i s = .next t →
    (i.device = .trs → t.ars = s.ars ∧ t.arsLive = s.arsLive ∧ ∀ (a : Ars) (l : Bool),
      exec i { s with ars := a, arsLive := l } = .next { t with ars := a, arsLive := l }) ∧
    (i.device = .ars → t.trs = s.trs ∧ t.trsLive = s.trsLive ∧ ∀ (a : Trs) (l : Bool),
      exec i { s with trs := a, trsLive := l } = .next { t with trs := a, trsLive := l })

/-- The pseudo-operations, performed operation by operation, have the effects the spec lists: sampling
starts or stops with the interrupt masked or not, `TICKS` samples, `WAIT` lets clocks elapse, on a stopped
timer without effect and on a running one with a tick whenever the count is out, `KICK` changes nothing
(R79, the spec's own, its decision D17). That `ENABLE` and `DISABLE` lower `irq` at once is R101 and its
decision D3, what the timer's clocks do R118 and D12, what a tick stores R116 and D13, an unavailable
source reading as 0 D14, all held by log entry 11; the schedule is log entry 1. -/
def Obligations.PseudoOperationsHaveTheirEffect : Prop :=
  ∀ s : State, s.trsLive = true →
    (∃ t, runOps PseudoOp.enable.expand s = .next t ∧ t.trs.ctrl = 0x00000001#32 ∧
      t.trs.timerRunning = true ∧ t.irq = false) ∧
    (∃ t, runOps PseudoOp.enableIrq.expand s = .next t ∧ t.trs.ctrl = 0x00000003#32 ∧
      t.trs.timerRunning = true ∧ t.irq = s.trs.status.getLsbD 1) ∧
    (∃ t, runOps PseudoOp.disable.expand s = .next t ∧ t.trs.ctrl = 0x00000000#32 ∧
      t.trs.timerRunning = false ∧ t.irq = false) ∧
    (∃ t, runOps PseudoOp.kick.expand s = .next t ∧ t.trs = s.trs ∧ t.irq = s.irq) ∧
    (s.trs.timerRunning = true → ∀ n, ∃ t, runOps (PseudoOp.ticks (n + 1)).expand s = .next t ∧
      t.trs = { s.trs with
        data := s.ext.getD 0#32 &&& 0x000000FF#32
        status := s.trs.status ||| 0x00000002#32 }) ∧
    (s.trs.timerRunning = true → ∀ n, n < s.trs.timerCount →
      ∃ t, runOps (PseudoOp.wait n).expand s = .next t ∧
        t.trs = { s.trs with timerCount := s.trs.timerCount - n }) ∧
    (s.trs.timerRunning = true → 1 ≤ s.trs.timerCount → ∀ k j, j < Config.tickPeriod →
      ∃ t, runOps (PseudoOp.wait (s.trs.timerCount + k * Config.tickPeriod + j)).expand s = .next t ∧
        t.trs = { s.trs with
          data := s.ext.getD 0#32 &&& 0x000000FF#32
          status := s.trs.status ||| 0x00000002#32
          timerCount := Config.tickPeriod - j }) ∧
    (s.trs.timerRunning = false → ∀ n,
      ∃ t, runOps (PseudoOp.wait n).expand s = .next t ∧ t.trs = s.trs)

/-- The two orders of a tick and another operation, row by row of the race table (R196, derived by the spec;
what a tick stores is R116, its decision D13, an unavailable source reading as 0 its D14, that a reset stops
the timer its D4, that a stopped timer has no tick its D29; that no step is a fault is log entry 3). -/
def Obligations.RacesWithATick : Prop :=
  ∀ (s : State) (v : Word), s.trsLive = true → s.trs.timerRunning = true →
    -- with RD 0x08
    (∃ t u, runOps [.tick, .rdData] s = .next t ∧
      t.result = .rdata (s.ext.getD 0#32 &&& 0x000000FF#32) ∧
      runOps [.rdData] s = .next u ∧ u.result = .rdata s.trs.data ∧
      ∃ w, runOps [.tick] u = .next w) ∧
    -- with RD 0x04, first tick after reset
    (s.trs.status = 0#32 → ∃ t u, runOps [.tick, .rdStatus] s = .next t ∧
      t.result = .rdata 0x00000002#32 ∧ runOps [.rdStatus] s = .next u ∧
      u.result = .rdata 0x00000000#32) ∧
    -- with WR 0x00 clearing EN
    (v.getLsbD 0 = false → ∃ t u, runOps [.tick, .wrCtrl v] s = .next t ∧
      t.trs.data = s.ext.getD 0#32 &&& 0x000000FF#32 ∧ t.trs.status.getLsbD 1 = true ∧
      t.trs.timerRunning = false ∧ runOps [.wrCtrl v] s = .next u ∧ u.trs.timerRunning = false ∧
      u.trs.data = s.trs.data ∧ u.trs.status = s.trs.status ∧
      runOps [.tick] u = .fault .tickWhileStopped) ∧
    -- with RESET
    (∃ t u, runOps [.tick, .reset] s = .next t ∧ t.trs.data = 0#32 ∧ t.trs.status = 0#32 ∧
      runOps [.reset] s = .next u ∧ runOps [.tick] u = .fault .tickWhileStopped) ∧
    -- with SAVE, in the refined timer
    (s.trs.timerCount = 1 → ∃ t u n m, runOps [.timerclk, .save] s = .next t ∧
      t.result = .snapshot n ∧ n.x2 = s.ext.getD 0#32 &&& 0x000000FF#32 ∧
      runOps [.save] s = .next u ∧ u.result = .snapshot m ∧ m.x2 = s.trs.data ∧ m.timerCount = 1)
end

