-- ==== Sys2Proof/Laws/Decode.lean ====
section
/-! SUPPORT. The operation word taken apart and put together, the offset and kind decoders by cases, and
what selecting a table row means field by field. -/

namespace Sys2Proof

/-! ### The constants as the literals of the rules -/

theorem regWidth_eq : regWidth = 32 := rfl
theorem extWidth_eq : extWidth = 32 := rfl

/-- The word `ENABLE` writes (R79). -/
theorem expand_enable : PseudoOp.enable.expand = [.wrCtrl 0x00000001#32] := by decide

/-- The word `ENABLE.IRQ` writes (R79). -/
theorem expand_enableIrq : PseudoOp.enableIrq.expand = [.wrCtrl 0x00000003#32] := by decide

/-- The word `DISABLE` writes (R79). -/
theorem expand_disable : PseudoOp.disable.expand = [.wrCtrl 0x00000000#32] := rfl

/-- The word `KICK` writes (R79). -/
theorem expand_kick : PseudoOp.kick.expand = [.wrStatus 0x00000000#32] := rfl

/-- The write mask of CTRL (R74). -/
theorem ctrlWriteMask_eq : ctrlWriteMask = 0x00000003#32 := by decide

/-- IFG alone (R116). -/
theorem ifgMask_eq : ifgMask = 0x00000002#32 := by decide

/-- There are `NUM_REGS` offsets, `REG_STRIDE` apart (R22, R73). -/
theorem offsets_eq :
    [offCtrl, offStatus, offData] =
      (List.range numRegs).map fun i => (BitVec.ofNat _ (i * regStride) : Word) := by decide

/-- Storing in CTRL is masking with 0x3 (R74). -/
theorem ctrlStored_eq (wdata : Word) : ctrlStored wdata = wdata &&& 0x00000003#32 := by
  rw [ctrlStored, ctrlWriteMask_eq]

/-- The stored value is `zext_32(wdata[1:0])`, as R74 writes it. -/
theorem ctrlStored_eq_zext (wdata : Word) :
    ctrlStored wdata = (wdata.extractLsb' 0 2).setWidth 32 := by
  rw [ctrlStored_eq]
  apply BitVec.eq_of_toNat_eq
  have h := Nat.and_two_pow_sub_one_eq_mod wdata.toNat 2
  simp only [BitVec.toNat_and, BitVec.toNat_setWidth, BitVec.extractLsb'_toNat, Nat.shiftRight_zero]
  norm_num at h ⊢
  omega

/-! ### The operation word -/

/-- The bits of a packed word. -/
theorem getLsbD_pack (k : Byte) (o d : Word) (i : Nat) :
    (pack k o d).getLsbD i =
      if i < 32 then d.getLsbD i else if i < 64 then o.getLsbD (i - 32) else k.getLsbD (i - 64) := by
  have h : (pack k o d).getLsbD i = ((k ++ o) ++ d : BitVec (8 + 32 + 32)).getLsbD i := rfl
  rw [h, BitVec.getLsbD_append, BitVec.getLsbD_append]
  by_cases h1 : i < 32
  · simp [h1]
  · by_cases h2 : i < 64
    · have : i - 32 < 32 := by omega
      simp [h1, h2, this]
    · have : ¬ i - 32 < 32 := by omega
      simp [h1, h2, this, Nat.sub_sub]

@[simp] theorem kindOf_pack (k : Byte) (o d : Word) : kindOf (pack k o d) = k := by
  apply BitVec.eq_of_getLsbD_eq
  intro i hi
  have h1 : ¬ 64 + i < 32 := by omega
  simp [kindOf, getLsbD_pack, hi, h1]

@[simp] theorem offsetOf_pack (k : Byte) (o d : Word) : offsetOf (pack k o d) = o := by
  apply BitVec.eq_of_getLsbD_eq
  intro i hi
  have h2 : 32 + i < 64 := by omega
  simp [offsetOf, getLsbD_pack, hi, h2]

@[simp] theorem wdataOf_pack (k : Byte) (o d : Word) : wdataOf (pack k o d) = d := by
  apply BitVec.eq_of_getLsbD_eq
  intro i hi
  simp [wdataOf, getLsbD_pack, hi]

/-- Every word is the pack of its three fields. -/
theorem pack_fields (w : OpWord) : pack (kindOf w) (offsetOf w) (wdataOf w) = w := by
  apply BitVec.eq_of_getLsbD_eq
  intro i hi
  rw [getLsbD_pack]
  by_cases h1 : i < 32
  · simp [h1, wdataOf]
  · by_cases h2 : i < 64
    · have h3 : i - 32 < 32 := by omega
      have h4 : 32 + (i - 32) = i := by omega
      simp [h1, h2, h3, h4, offsetOf]
    · have h3 : i - 64 < 8 := by omega
      have h4 : 64 + (i - 64) = i := by omega
      simp [h1, h2, h3, h4, kindOf]

/-- Two packs are equal exactly when their fields are. -/
theorem pack_inj {k k' : Byte} {o o' d d' : Word} :
    pack k o d = pack k' o' d' ↔ k = k' ∧ o = o' ∧ d = d' := by
  constructor
  · intro h
    exact ⟨by simpa using congrArg kindOf h, by simpa using congrArg offsetOf h,
      by simpa using congrArg wdataOf h⟩
  · rintro ⟨rfl, rfl, rfl⟩
    rfl

/-- The bitwise AND of two packs, field by field. -/
theorem pack_and (k k' : Byte) (o o' d d' : Word) :
    pack k o d &&& pack k' o' d' = pack (k &&& k') (o &&& o') (d &&& d') := by
  apply BitVec.eq_of_getLsbD_eq
  intro i hi
  simp only [BitVec.getLsbD_and, getLsbD_pack]
  split
  · rfl
  · split <;> rfl

/-- The opcode table is that of `spec/opcode_table.json`, row by row. -/
theorem opcodeTable_eq :
    opcodeTable =
      [⟨"RD.CTRL", 0x000000000000000000#72, 0xFFFFFFFFFF00000000#72, 1⟩,
       ⟨"RD.STATUS", 0x000000000400000000#72, 0xFFFFFFFFFF00000000#72, 1⟩,
       ⟨"RD.DATA", 0x000000000800000000#72, 0xFFFFFFFFFF00000000#72, 1⟩,
       ⟨"RD.INVALID", 0x000000000000000000#72, 0xFF0000000000000000#72, 2⟩,
       ⟨"WR.CTRL", 0x010000000000000000#72, 0xFFFFFFFFFF00000000#72, 1⟩,
       ⟨"WR.STATUS", 0x010000000400000000#72, 0xFFFFFFFFFF00000000#72, 1⟩,
       ⟨"WR.DATA", 0x010000000800000000#72, 0xFFFFFFFFFF00000000#72, 1⟩,
       ⟨"WR.INVALID", 0x010000000000000000#72, 0xFF0000000000000000#72, 2⟩,
       ⟨"TICK", 0x020000000000000000#72, 0xFF0000000000000000#72, 1⟩,
       ⟨"TIMERCLK", 0x030000000000000000#72, 0xFF0000000000000000#72, 1⟩,
       ⟨"RESET", 0x040000000000000000#72, 0xFF0000000000000000#72, 1⟩,
       ⟨"POWERON", 0x050000000000000000#72, 0xFF0000000000000000#72, 1⟩,
       ⟨"SAVE", 0x060000000000000000#72, 0xFF0000000000000000#72, 1⟩,
       ⟨"RESTORE", 0x070000000000000000#72, 0xFF0000000000000000#72, 1⟩,
       ⟨"EXTSET", 0x080000000000000000#72, 0xFF0000000000000000#72, 1⟩,
       ⟨"A.EVENT.START_RECEIVE", 0x100000000000000000#72, 0xFFFFFFFFFF00000000#72, 1⟩,
       ⟨"A.EVENT.OTHER", 0x100000000000000000#72, 0xFF0000000000000000#72, 2⟩,
       ⟨"A.TX", 0x110000000000000000#72, 0xFF0000000000000000#72, 1⟩,
       ⟨"A.RX", 0x120000000000000000#72, 0xFF0000000000000000#72, 1⟩,
       ⟨"A.RESET", 0x130000000000000000#72, 0xFF0000000000000000#72, 1⟩,
       ⟨"A.POWERON", 0x140000000000000000#72, 0xFF0000000000000000#72, 1⟩] := by
  decide

/-- A mask that looks at the kind alone. -/
theorem and_kindMask (w : OpWord) : w &&& 0xFF0000000000000000#72 = pack (kindOf w) 0#32 0#32 := by
  have h : (0xFF0000000000000000#72 : OpWord) = pack 0xFF#8 0#32 0#32 := by decide
  have hk : ∀ k : Byte, k &&& 0xFF#8 = k := fun k => by
    simpa using BitVec.and_allOnes (x := k)
  rw [h]
  conv => lhs; rw [← pack_fields w]
  simp [pack_and, hk]

/-- A mask that looks at the kind and the offset. -/
theorem and_kindOffsetMask (w : OpWord) :
    w &&& 0xFFFFFFFFFF00000000#72 = pack (kindOf w) (offsetOf w) 0#32 := by
  have h : (0xFFFFFFFFFF00000000#72 : OpWord) = pack 0xFF#8 0xFFFFFFFF#32 0#32 := by decide
  have hk : ∀ k : Byte, k &&& 0xFF#8 = k := fun k => by
    simpa using BitVec.and_allOnes (x := k)
  have ho : ∀ o : Word, o &&& 0xFFFFFFFF#32 = o := fun o => by
    simpa using BitVec.and_allOnes (x := o)
  rw [h]
  conv => lhs; rw [← pack_fields w]
  simp [pack_and, hk, ho]

/-- The offset decode by cases (R73). -/
theorem decodeReg_cases (o : Word) :
    (o = 0x00000000#32 ∧ decodeReg o = .ctrl) ∨ (o = 0x00000004#32 ∧ decodeReg o = .status) ∨
      (o = 0x00000008#32 ∧ decodeReg o = .data) ∨
      (o ≠ 0x00000000#32 ∧ o ≠ 0x00000004#32 ∧ o ≠ 0x00000008#32 ∧ decodeReg o = .invalid) := by
  by_cases h0 : o = 0x00000000#32
  · exact .inl ⟨h0, by simp [decodeReg, offCtrl, h0]⟩
  · by_cases h4 : o = 0x00000004#32
    · exact .inr (.inl ⟨h4, by subst h4; decide⟩)
    · by_cases h8 : o = 0x00000008#32
      · exact .inr (.inr (.inl ⟨h8, by subst h8; decide⟩))
      · exact .inr (.inr (.inr ⟨h0, h4, h8, by simp [decodeReg, offCtrl, offStatus, offData, h0, h4, h8]⟩))

@[simp] theorem kindOfCode_kindCode (k : OpKind) : kindOfCode (kindCode k) = some k := by
  cases k <;> decide

/-- A code names a kind only if it is that kind's code. -/
theorem kindCode_of_kindOfCode {c : Byte} {k : OpKind} (h : kindOfCode c = some k) :
    kindCode k = c := by
  simpa using List.find?_some h

/-- The decode of a word whose kind is known. -/
theorem decode_pack (k : OpKind) (o d : Word) (b : Option Snapshot) :
    decode (pack (kindCode k) o d) b =
      match k with
      | .rd => .ok (decodeRead o)
      | .wr => .ok (decodeWrite o d)
      | .tick => .ok .tick
      | .timerclk => .ok .timerclk
      | .reset => .ok .reset
      | .poweron => .ok .poweron
      | .save => .ok .save
      | .restore => match b with
        | some n => .ok (.restore n)
        | none => .error .missingSnapshot
      | .extset => .ok (.extset d)
      | .aEvent => .ok (decodeEvent o)
      | .aTx => .ok .aTx
      | .aRx => .ok (.aRx (d.extractLsb' 0 8))
      | .aReset => .ok .aReset
      | .aPoweron => .ok .aPoweron := by
  cases k <;> cases b <;> simp [decode]

end Sys2Proof
end

