-- ==== Sys2Proof/Laws/State.lean ====
section
/-! SUPPORT. One lemma per field per update, true by `rfl`, so that no proof unfolds an update. -/

namespace Sys2Proof.Machine

/-! ### Updates of `Trs` -/

@[simp] theorem Trs.setCtrl_ctrl (v : Word) (t : Trs) : (t.setCtrl v).ctrl = v := rfl
@[simp] theorem Trs.setCtrl_status (v : Word) (t : Trs) : (t.setCtrl v).status = t.status := rfl
@[simp] theorem Trs.setCtrl_data (v : Word) (t : Trs) : (t.setCtrl v).data = t.data := rfl
@[simp] theorem Trs.setCtrl_timerRunning (v : Word) (t : Trs) : (t.setCtrl v).timerRunning = t.timerRunning := rfl
@[simp] theorem Trs.setCtrl_timerCount (v : Word) (t : Trs) : (t.setCtrl v).timerCount = t.timerCount := rfl
@[simp] theorem Trs.setStatus_ctrl (v : Word) (t : Trs) : (t.setStatus v).ctrl = t.ctrl := rfl
@[simp] theorem Trs.setStatus_status (v : Word) (t : Trs) : (t.setStatus v).status = v := rfl
@[simp] theorem Trs.setStatus_data (v : Word) (t : Trs) : (t.setStatus v).data = t.data := rfl
@[simp] theorem Trs.setStatus_timerRunning (v : Word) (t : Trs) : (t.setStatus v).timerRunning = t.timerRunning := rfl
@[simp] theorem Trs.setStatus_timerCount (v : Word) (t : Trs) : (t.setStatus v).timerCount = t.timerCount := rfl
@[simp] theorem Trs.setData_ctrl (v : Word) (t : Trs) : (t.setData v).ctrl = t.ctrl := rfl
@[simp] theorem Trs.setData_status (v : Word) (t : Trs) : (t.setData v).status = t.status := rfl
@[simp] theorem Trs.setData_data (v : Word) (t : Trs) : (t.setData v).data = v := rfl
@[simp] theorem Trs.setData_timerRunning (v : Word) (t : Trs) : (t.setData v).timerRunning = t.timerRunning := rfl
@[simp] theorem Trs.setData_timerCount (v : Word) (t : Trs) : (t.setData v).timerCount = t.timerCount := rfl
@[simp] theorem Trs.setTimerRunning_ctrl (v : Bool) (t : Trs) : (t.setTimerRunning v).ctrl = t.ctrl := rfl
@[simp] theorem Trs.setTimerRunning_status (v : Bool) (t : Trs) : (t.setTimerRunning v).status = t.status := rfl
@[simp] theorem Trs.setTimerRunning_data (v : Bool) (t : Trs) : (t.setTimerRunning v).data = t.data := rfl
@[simp] theorem Trs.setTimerRunning_timerRunning (v : Bool) (t : Trs) : (t.setTimerRunning v).timerRunning = v := rfl
@[simp] theorem Trs.setTimerRunning_timerCount (v : Bool) (t : Trs) : (t.setTimerRunning v).timerCount = t.timerCount := rfl
@[simp] theorem Trs.setTimerCount_ctrl (v : Nat) (t : Trs) : (t.setTimerCount v).ctrl = t.ctrl := rfl
@[simp] theorem Trs.setTimerCount_status (v : Nat) (t : Trs) : (t.setTimerCount v).status = t.status := rfl
@[simp] theorem Trs.setTimerCount_data (v : Nat) (t : Trs) : (t.setTimerCount v).data = t.data := rfl
@[simp] theorem Trs.setTimerCount_timerRunning (v : Nat) (t : Trs) : (t.setTimerCount v).timerRunning = t.timerRunning := rfl
@[simp] theorem Trs.setTimerCount_timerCount (v : Nat) (t : Trs) : (t.setTimerCount v).timerCount = v := rfl

/-! ### Updates of `Ars` -/

@[simp] theorem Ars.setCtrl_ctrl (v : Byte) (a : Ars) : (a.setCtrl v).ctrl = v := rfl
@[simp] theorem Ars.setCtrl_data (v : Byte) (a : Ars) : (a.setCtrl v).data = a.data := rfl
@[simp] theorem Ars.setCtrl_transferCount (v : Byte) (a : Ars) : (a.setCtrl v).transferCount = a.transferCount := rfl
@[simp] theorem Ars.setCtrl_pointer (v : Byte) (a : Ars) : (a.setCtrl v).pointer = a.pointer := rfl
@[simp] theorem Ars.setData_ctrl (v : Byte) (a : Ars) : (a.setData v).ctrl = a.ctrl := rfl
@[simp] theorem Ars.setData_data (v : Byte) (a : Ars) : (a.setData v).data = v := rfl
@[simp] theorem Ars.setData_transferCount (v : Byte) (a : Ars) : (a.setData v).transferCount = a.transferCount := rfl
@[simp] theorem Ars.setData_pointer (v : Byte) (a : Ars) : (a.setData v).pointer = a.pointer := rfl
@[simp] theorem Ars.setTransferCount_ctrl (v : TransferCount) (a : Ars) : (a.setTransferCount v).ctrl = a.ctrl := rfl
@[simp] theorem Ars.setTransferCount_data (v : TransferCount) (a : Ars) : (a.setTransferCount v).data = a.data := rfl
@[simp] theorem Ars.setTransferCount_transferCount (v : TransferCount) (a : Ars) : (a.setTransferCount v).transferCount = v := rfl
@[simp] theorem Ars.setTransferCount_pointer (v : TransferCount) (a : Ars) : (a.setTransferCount v).pointer = a.pointer := rfl
@[simp] theorem Ars.setPointer_ctrl (v : Byte) (a : Ars) : (a.setPointer v).ctrl = a.ctrl := rfl
@[simp] theorem Ars.setPointer_data (v : Byte) (a : Ars) : (a.setPointer v).data = a.data := rfl
@[simp] theorem Ars.setPointer_transferCount (v : Byte) (a : Ars) : (a.setPointer v).transferCount = a.transferCount := rfl
@[simp] theorem Ars.setPointer_pointer (v : Byte) (a : Ars) : (a.setPointer v).pointer = v := rfl

/-! ### Updates of `State` -/

@[simp] theorem State.setTrs_trs (v : Trs) (s : State) : (s.setTrs v).trs = v := rfl
@[simp] theorem State.setTrs_trsLive (v : Trs) (s : State) : (s.setTrs v).trsLive = s.trsLive := rfl
@[simp] theorem State.setTrs_ars (v : Trs) (s : State) : (s.setTrs v).ars = s.ars := rfl
@[simp] theorem State.setTrs_arsLive (v : Trs) (s : State) : (s.setTrs v).arsLive = s.arsLive := rfl
@[simp] theorem State.setTrs_ext (v : Trs) (s : State) : (s.setTrs v).ext = s.ext := rfl
@[simp] theorem State.setTrs_result (v : Trs) (s : State) : (s.setTrs v).result = s.result := rfl
@[simp] theorem State.setTrs_schedule (v : Trs) (s : State) : (s.setTrs v).schedule = s.schedule := rfl
@[simp] theorem State.setTrsLive_trs (v : Bool) (s : State) : (s.setTrsLive v).trs = s.trs := rfl
@[simp] theorem State.setTrsLive_trsLive (v : Bool) (s : State) : (s.setTrsLive v).trsLive = v := rfl
@[simp] theorem State.setTrsLive_ars (v : Bool) (s : State) : (s.setTrsLive v).ars = s.ars := rfl
@[simp] theorem State.setTrsLive_arsLive (v : Bool) (s : State) : (s.setTrsLive v).arsLive = s.arsLive := rfl
@[simp] theorem State.setTrsLive_ext (v : Bool) (s : State) : (s.setTrsLive v).ext = s.ext := rfl
@[simp] theorem State.setTrsLive_result (v : Bool) (s : State) : (s.setTrsLive v).result = s.result := rfl
@[simp] theorem State.setTrsLive_schedule (v : Bool) (s : State) : (s.setTrsLive v).schedule = s.schedule := rfl
@[simp] theorem State.setArs_trs (v : Ars) (s : State) : (s.setArs v).trs = s.trs := rfl
@[simp] theorem State.setArs_trsLive (v : Ars) (s : State) : (s.setArs v).trsLive = s.trsLive := rfl
@[simp] theorem State.setArs_ars (v : Ars) (s : State) : (s.setArs v).ars = v := rfl
@[simp] theorem State.setArs_arsLive (v : Ars) (s : State) : (s.setArs v).arsLive = s.arsLive := rfl
@[simp] theorem State.setArs_ext (v : Ars) (s : State) : (s.setArs v).ext = s.ext := rfl
@[simp] theorem State.setArs_result (v : Ars) (s : State) : (s.setArs v).result = s.result := rfl
@[simp] theorem State.setArs_schedule (v : Ars) (s : State) : (s.setArs v).schedule = s.schedule := rfl
@[simp] theorem State.setArsLive_trs (v : Bool) (s : State) : (s.setArsLive v).trs = s.trs := rfl
@[simp] theorem State.setArsLive_trsLive (v : Bool) (s : State) : (s.setArsLive v).trsLive = s.trsLive := rfl
@[simp] theorem State.setArsLive_ars (v : Bool) (s : State) : (s.setArsLive v).ars = s.ars := rfl
@[simp] theorem State.setArsLive_arsLive (v : Bool) (s : State) : (s.setArsLive v).arsLive = v := rfl
@[simp] theorem State.setArsLive_ext (v : Bool) (s : State) : (s.setArsLive v).ext = s.ext := rfl
@[simp] theorem State.setArsLive_result (v : Bool) (s : State) : (s.setArsLive v).result = s.result := rfl
@[simp] theorem State.setArsLive_schedule (v : Bool) (s : State) : (s.setArsLive v).schedule = s.schedule := rfl
@[simp] theorem State.setExt_trs (v : Option ExtWord) (s : State) : (s.setExt v).trs = s.trs := rfl
@[simp] theorem State.setExt_trsLive (v : Option ExtWord) (s : State) : (s.setExt v).trsLive = s.trsLive := rfl
@[simp] theorem State.setExt_ars (v : Option ExtWord) (s : State) : (s.setExt v).ars = s.ars := rfl
@[simp] theorem State.setExt_arsLive (v : Option ExtWord) (s : State) : (s.setExt v).arsLive = s.arsLive := rfl
@[simp] theorem State.setExt_ext (v : Option ExtWord) (s : State) : (s.setExt v).ext = v := rfl
@[simp] theorem State.setExt_result (v : Option ExtWord) (s : State) : (s.setExt v).result = s.result := rfl
@[simp] theorem State.setExt_schedule (v : Option ExtWord) (s : State) : (s.setExt v).schedule = s.schedule := rfl
@[simp] theorem State.setResult_trs (v : OpResult) (s : State) : (s.setResult v).trs = s.trs := rfl
@[simp] theorem State.setResult_trsLive (v : OpResult) (s : State) : (s.setResult v).trsLive = s.trsLive := rfl
@[simp] theorem State.setResult_ars (v : OpResult) (s : State) : (s.setResult v).ars = s.ars := rfl
@[simp] theorem State.setResult_arsLive (v : OpResult) (s : State) : (s.setResult v).arsLive = s.arsLive := rfl
@[simp] theorem State.setResult_ext (v : OpResult) (s : State) : (s.setResult v).ext = s.ext := rfl
@[simp] theorem State.setResult_result (v : OpResult) (s : State) : (s.setResult v).result = v := rfl
@[simp] theorem State.setResult_schedule (v : OpResult) (s : State) : (s.setResult v).schedule = s.schedule := rfl
@[simp] theorem State.setSchedule_trs (v : List Request) (s : State) : (s.setSchedule v).trs = s.trs := rfl
@[simp] theorem State.setSchedule_trsLive (v : List Request) (s : State) : (s.setSchedule v).trsLive = s.trsLive := rfl
@[simp] theorem State.setSchedule_ars (v : List Request) (s : State) : (s.setSchedule v).ars = s.ars := rfl
@[simp] theorem State.setSchedule_arsLive (v : List Request) (s : State) : (s.setSchedule v).arsLive = s.arsLive := rfl
@[simp] theorem State.setSchedule_ext (v : List Request) (s : State) : (s.setSchedule v).ext = s.ext := rfl
@[simp] theorem State.setSchedule_result (v : List Request) (s : State) : (s.setSchedule v).result = s.result := rfl
@[simp] theorem State.setSchedule_schedule (v : List Request) (s : State) : (s.setSchedule v).schedule = v := rfl

end Sys2Proof.Machine
end

