-- ==== Sys2Proof/Laws/Ops.lean ====
section
/-! SUPPORT. What each shared operation can do, said once; the proofs cite these and do not unfold. -/

namespace Sys2Proof.Machine

/-! ### Outcomes -/

/-- An operation that completes answers a next state whose only own change is the result. -/
theorem complete_eq_next {r : OpResult} {s t : State} :
    complete r s = .next t ↔ t = s.setResult r := by
  simp [complete, eq_comm]

/-- On a live TRS the answer is the operation's own. -/
theorem onTrs_live {s : State} {a : Host.Outcome State Fault Refusal} (h : s.trsLive = true) :
    onTrs s a = a := by simp [onTrs, h]

/-- A TRS that is not instantiated has no step (R220). -/
theorem onTrs_absent {s : State} {a : Host.Outcome State Fault Refusal} (h : s.trsLive = false) :
    onTrs s a = .fault .trsAbsent := by simp [onTrs, h]

/-- On a live ARS the answer is the operation's own. -/
theorem onArs_live {s : State} {a : Host.Outcome State Fault Refusal} (h : s.arsLive = true) :
    onArs s a = a := by simp [onArs, h]

/-- An ARS that is not instantiated has no step. -/
theorem onArs_absent {s : State} {a : Host.Outcome State Fault Refusal} (h : s.arsLive = false) :
    onArs s a = .fault .arsAbsent := by simp [onArs, h]

/-- A guarded operation answers a next state only on a live TRS. -/
theorem onTrs_eq_next {s t : State} {a : Host.Outcome State Fault Refusal} :
    onTrs s a = .next t ↔ s.trsLive = true ∧ a = .next t := by
  cases h : s.trsLive <;> simp [onTrs, h]

/-- A guarded operation answers a next state only on a live ARS. -/
theorem onArs_eq_next {s t : State} {a : Host.Outcome State Fault Refusal} :
    onArs s a = .next t ↔ s.arsLive = true ∧ a = .next t := by
  cases h : s.arsLive <;> simp [onArs, h]

/-! ### The timer -/

/-- Starting loads a full period only from `STOPPED` (R101, R119). -/
theorem startTimer_spec (t : Trs) :
    startTimer t = { t with
      timerRunning := true
      timerCount := if t.timerRunning then t.timerCount else Config.tickPeriod } := by
  cases t with
  | mk c st d r n => cases r <;> rfl

/-- Stopping keeps the count (R119). -/
theorem stopTimer_spec (t : Trs) : stopTimer t = { t with timerRunning := false } := rfl

/-- The period is at least one clock (R9). -/
theorem one_le_tickPeriod : 1 ≤ Config.tickPeriod := Nat.le_add_left 1 _

/-- The effect of a tick, field by field (R116). -/
theorem onTimerTick_spec (ext : Option ExtWord) (t : Trs) :
    onTimerTick ext t = { t with status := t.status ||| 0x00000002#32, data := sampleWord ext } := rfl

/-- A timer clock by cases (R118). -/
theorem timerClock_cases (ext : Option ExtWord) (t : Trs) :
    (t.timerRunning = false ∧ timerClock ext t = t) ∨
    (t.timerRunning = true ∧ t.timerCount = 1 ∧
      timerClock ext t = { t with
        status := t.status ||| 0x00000002#32
        data := sampleWord ext
        timerCount := Config.tickPeriod }) ∨
    (t.timerRunning = true ∧ t.timerCount ≠ 1 ∧
      timerClock ext t = { t with timerCount := t.timerCount - 1 }) := by
  obtain ⟨c, st, d, r, n⟩ := t
  cases r with
  | false => exact .inl ⟨rfl, rfl⟩
  | true =>
    by_cases hc : n = 1
    · subst hc
      exact .inr (.inl ⟨rfl, rfl, rfl⟩)
    · exact .inr (.inr ⟨rfl, hc, by simp [timerClock, hc, Trs.setTimerCount]⟩)

/-! ### The write of CTRL -/

/-- The write of CTRL and its hook (R101). -/
theorem writeCtrl_spec (wdata : Word) (t : Trs) :
    writeCtrl wdata t = { t with
      ctrl := ctrlStored wdata
      timerRunning := enOf (ctrlStored wdata)
      timerCount := if enOf (ctrlStored wdata) && !t.timerRunning then Config.tickPeriod
        else t.timerCount } := by
  cases t with
  | mk c st d r n =>
    cases he : enOf (ctrlStored wdata) <;> cases r <;>
      simp [writeCtrl, onCtrlWrite, evaluateInterrupt, startTimer, stopTimer, Trs.setCtrl,
        Trs.setTimerRunning, Trs.setTimerCount, he]

/-- Bit 0 of a stored CTRL is bit 0 of the written value (R74, R102). -/
@[simp] theorem enOf_ctrlStored (wdata : Word) : enOf (ctrlStored wdata) = wdata.getLsbD 0 := by
  simp [enOf, ctrlEnBit, ctrlStored_eq]

/-- Bit 1 of a stored CTRL is bit 1 of the written value (R74). -/
@[simp] theorem ienOf_ctrlStored (wdata : Word) : ienOf (ctrlStored wdata) = wdata.getLsbD 1 := by
  simp [ienOf, ctrlIenBit, ctrlStored_eq]

/-- A stored CTRL keeps to its two bits (R23). -/
theorem ctrlStored_le (wdata : Word) : (ctrlStored wdata).toNat ≤ 3 := by
  rw [ctrlStored_eq, BitVec.toNat_and]
  exact Nat.and_le_right

/-- A sample is `zext_32(ext[7:0])`, as R116 writes it. -/
theorem sampleWord_eq_zext (ext : Option ExtWord) :
    sampleWord ext = ((readExt ext).extractLsb' 0 8).setWidth 32 := rfl

/-- A refresh of the companion device takes `ext[7:0]`, as R160 writes it. -/
theorem extByte_eq (ext : Option ExtWord) : extByte ext = (readExt ext).extractLsb' 0 8 := rfl

/-- A sample keeps to its eight bits (R26). -/
theorem sampleWord_le (ext : Option ExtWord) : (sampleWord ext).toNat ≤ 0xFF := by
  have h := (sampleWord_eq_zext ext).symm ▸ BitVec.toNat_setWidth 32 ((readExt ext).extractLsb' 0 8)
  have hb := ((readExt ext).extractLsb' 0 8).isLt
  omega

/-! ### The window, the source, the snapshot -/

/-- A read of the window by offset (R51, R90). -/
theorem readWindow_spec (t : Trs) (o : Word) :
    readWindow t o =
      if o = 0x00000000#32 then t.ctrl else if o = 0x00000004#32 then t.status
      else if o = 0x00000008#32 then t.data else 0x00000000#32 := by
  rcases decodeReg_cases o with ⟨rfl, h⟩ | ⟨rfl, h⟩ | ⟨rfl, h⟩ | ⟨h0, h4, h8, h⟩
  · simp [readWindow, h]
  · simp [readWindow, h]
  · simp [readWindow, h]
  · simp [readWindow, h, h0, h4, h8, oorReadValue]

/-- The one access width is 4 bytes (R53). -/
theorem accessWidthBytes_eq : accessWidthBytes = 4 := rfl

/-- A word's offset is its byte's, aligned down to 4. -/
theorem wordOffset_toNat (a : Word) : (wordOffset a).toNat = a.toNat - a.toNat % 4 := by
  have h := a.isLt
  simp only [wordOffset, regStride, BitVec.toNat_sub, BitVec.toNat_ofNat]
  omega

/-- The byte of its word an offset names, in either byte order (R55). -/
theorem byteLane_spec (e : Endian) (a : Word) :
    byteLane e a = match e with
      | .little => a.toNat % 4
      | .big => 3 - a.toNat % 4 := by cases e <;> rfl

/-- Outside the region, and where no offset of 32 bits reaches, the platform's view has no byte. -/
theorem platformByte_none {t : Trs} {a : Nat}
    (h : a < Config.platform.mmioBase ∨ regionSize ≤ a - Config.platform.mmioBase ∨
      2 ^ 32 ≤ a - Config.platform.mmioBase) : platformByte t a = none := by
  have hw : (2 : Nat) ^ regWidth = 2 ^ 32 := rfl
  exact if_neg (by omega)

/-- An unavailable source reads as 0 (R30). -/
@[simp] theorem readExt_none : readExt none = 0#32 := rfl

/-- An available source reads as its value. -/
@[simp] theorem readExt_some (v : Word) : readExt (some v) = v := rfl

/-- A restored snapshot of a state is that state (R138). -/
@[simp] theorem fromSnapshot_capture (t : Trs) : fromSnapshot (capture t) = t := rfl

/-- The snapshot of a restored state is the snapshot restored (R138). -/
@[simp] theorem capture_fromSnapshot (n : Snapshot) : capture (fromSnapshot n) = n := rfl

/-- The test of the count is the range of R135. -/
theorem countInPeriod_iff (n : Nat) :
    countInPeriod n = true ↔ 1 ≤ n ∧ n ≤ Config.tickPeriod := by
  have hp := one_le_tickPeriod
  simp only [countInPeriod, Bool.or_eq_true, beq_iff_eq, decide_eq_true_eq]
  refine ⟨?_, Or.inr⟩
  rintro (rfl | h)
  · exact ⟨Nat.le_refl 1, hp⟩
  · exact h

/-- A snapshot is well-formed exactly when the state it holds keeps the invariants (R135, R28). -/
theorem wellFormed_iff_inv (n : Snapshot) : n.wellFormed = true ↔ (fromSnapshot n).Inv := by
  have hp := countInPeriod_iff n.timerCount
  obtain ⟨x0, x1, x2, r, c⟩ := n
  have he : enOf x0 = x0.getLsbD 0 := rfl
  have hs : x2.toNat < 2 ^ sampleWidth ↔ x2.toNat ≤ 0xFF := Nat.lt_succ_iff
  have hm : ctrlWriteMask.toNat = 3 := by rw [ctrlWriteMask_eq]; rfl
  simp only [Snapshot.wellFormed, Trs.Inv, fromSnapshot, he, hp, hs, hm, ifgMask_eq,
    Bool.and_eq_true, Bool.or_eq_true, decide_eq_true_eq, beq_iff_eq, bne_iff_ne]
  have hb : (r = x0.getLsbD 0) ↔ (r = true ↔ x0.getLsbD 0 = true) := by
    cases r <;> cases x0.getLsbD 0 <;> simp
  have hd : (x1 ≠ 0#32 ∨ x2 = 0#32) ↔ (x1 = 0x00000000#32 → x2 = 0x00000000#32) := by
    by_cases h : x1 = 0#32 <;> simp [h]
  clear hp
  rw [hb, hd]
  tauto

/-! ### The companion device -/

/-- A received byte by cases (R163). -/
theorem receiveByte_cases (b : Byte) (a : Ars) :
    (a.transferCount = .needAddress ∧
      receiveByte b a = { a with pointer := b, transferCount := .needData }) ∨
    (a.transferCount = .needData ∧ a.pointer = 0x00#8 ∧
      receiveByte b a = { a with ctrl := b, pointer := 0x01#8 }) ∨
    (a.transferCount = .needData ∧ a.pointer ≠ 0x00#8 ∧ receiveByte b a = a) := by
  obtain ⟨c, d, t, p⟩ := a
  cases t with
  | needAddress => exact .inl ⟨rfl, rfl⟩
  | needData =>
    by_cases hp : p = 0x00#8
    · exact .inr (.inl ⟨rfl, hp, by simp [receiveByte, arsCtrlIndex, hp]; rfl⟩)
    · exact .inr (.inr ⟨rfl, hp, by simp [receiveByte, arsCtrlIndex, hp]⟩)

/-- A read-start event by cases (R160). -/
theorem refreshData_cases (ext : Option ExtWord) (a : Ars) :
    (a.pointer = 0x01#8 ∧ a.ctrl.getLsbD 0 = true ∧
      refreshData ext a = { a with data := extByte ext }) ∨
    (a.pointer = 0x01#8 ∧ a.ctrl.getLsbD 0 = false ∧ refreshData ext a = { a with data := 0x00#8 }) ∨
    (a.pointer ≠ 0x01#8 ∧ refreshData ext a = a) := by
  obtain ⟨c, d, t, p⟩ := a
  by_cases hp : p = 0x01#8
  · cases he : c.getLsbD 0 with
    | true => exact .inl ⟨hp, rfl, by simp only [refreshData, arsDataIndex, arsEnabled, hp, he]; rfl⟩
    | false =>
      exact .inr (.inl ⟨hp, rfl, by simp only [refreshData, arsDataIndex, arsEnabled, hp, he]; rfl⟩)
  · exact .inr (.inr ⟨hp, by simp [refreshData, arsDataIndex, hp]⟩)

/-! ### The step -/

/-- With an operation scheduled, the step performs it. -/
theorem step_cons {s : State} {r : Request} {rest : List Request} (h : s.schedule = r :: rest) :
    step s = perform r (s.setSchedule rest) := by
  simp [step, performNext, h]

/-- With nothing scheduled, a running timer counts one clock. -/
theorem step_nil_running {s : State} (h : s.schedule = []) (hl : s.trsLive = true)
    (hr : s.trs.timerRunning = true) : step s = exec .timerclk s := by
  simp [step, performNext, performAutonomous, h, hl, hr]

/-- With nothing scheduled and no running timer, there is no step (R236). -/
theorem step_nil_quiescent {s : State} (h : s.schedule = [])
    (hr : s.trsLive = false ∨ s.trs.timerRunning = false) : step s = .fault .quiescent := by
  rcases hr with hr | hr <;> simp [step, performNext, performAutonomous, h, hr]

/-- A word that decodes is executed. -/
theorem performWord_ok {w : OpWord} {b : Option Snapshot} {i : Instr} (s : State)
    (h : decode w b = .ok i) : performWord w b s = exec i s := by
  simp [performWord, h]

/-! ### Runs -/

/-- A run goes on from the state its first step answers. -/
theorem run_succ {n : Nat} {s t : State} (h : step s = .next t) :
    Host.Core.run Sys2Proof.core (n + 1) s = Host.Core.run Sys2Proof.core n t := by
  have h' : Sys2Proof.core.step s = .next t := h
  simp only [Host.Core.run, h']

/-- A run that answers a next state took a first step, and the rest of the run from there. -/
theorem run_succ_eq_next {n : Nat} {s t : State}
    (h : Host.Core.run Sys2Proof.core (n + 1) s = .next t) :
    ∃ u, step s = .next u ∧ Host.Core.run Sys2Proof.core n u = .next t := by
  simp only [Host.Core.run] at h
  split at h
  · rename_i u hu
    exact ⟨u, hu, h⟩
  · cases h
  · cases h

end Sys2Proof.Machine
end

