-- ==== Sys2Proof/Laws/PerInstr.lean ====
section
/-! SUPPORT. A statement for every instruction, as syntax: the word an instruction encodes to selects the
instruction's own row of the opcode table (`spec/30_encoding.md` R76). -/

namespace Sys2Proof.Laws.RowOfEncoding

/-- The row of the opcode table that the encoded word selects is the instruction's. -/
def Statement (i : Instr) : Prop :=
  i.wellFormed = true → (selectRow (encodeWord i)).map OpRow.mnemonic = some i.mnemonic

/-- Row selection on a packed word, as a comparison of fields. -/
theorem select_pack (k : Byte) (o d : Word) :
    selectRow (pack k o d) = selectRow (pack k o 0#32) := by
  simp only [selectRow, opcodeTable_eq,
    List.find?, rowSelects, and_kindMask, and_kindOffsetMask, kindOf_pack, offsetOf_pack]

theorem rdCtrl : Statement .rdCtrl := fun _ => by decide
theorem rdStatus : Statement .rdStatus := fun _ => by decide
theorem rdData : Statement .rdData := fun _ => by decide

/-- The patterns of the rows whose masks look at the offset, as packed words. -/
theorem offset_patterns :
    (0x000000000000000000#72 : OpWord) = pack 0x00#8 0x00000000#32 0#32 ∧
    (0x000000000400000000#72 : OpWord) = pack 0x00#8 0x00000004#32 0#32 ∧
    (0x000000000800000000#72 : OpWord) = pack 0x00#8 0x00000008#32 0#32 ∧
    (0x010000000000000000#72 : OpWord) = pack 0x01#8 0x00000000#32 0#32 ∧
    (0x010000000400000000#72 : OpWord) = pack 0x01#8 0x00000004#32 0#32 ∧
    (0x010000000800000000#72 : OpWord) = pack 0x01#8 0x00000008#32 0#32 ∧
    (0x100000000000000000#72 : OpWord) = pack 0x10#8 0x00000000#32 0#32 := by decide

/-- Packed words of different kind differ, as the table's comparison sees it. -/
theorem beq_pack_kind {k m : Byte} (h : k ≠ m) (o o' : Word) :
    (pack k o 0#32 == pack m o' 0#32) = false := by simp [pack_inj, h]

/-- Packed words of different offset differ, as the table's comparison sees it. -/
theorem beq_pack_offset {o o' : Word} (h : o ≠ o') (k m : Byte) :
    (pack k o 0#32 == pack m o' 0#32) = false := by simp [pack_inj, h]

/-- An offset that selects no register selects the fallback row of its kind. -/
theorem select_invalid {o : Word} (h : decodeReg o = .invalid) :
    (selectRow (pack 0x00#8 o 0#32)).map OpRow.mnemonic = some "RD.INVALID" ∧
      (selectRow (pack 0x01#8 o 0#32)).map OpRow.mnemonic = some "WR.INVALID" := by
  rcases decodeReg_cases o with ⟨_, g⟩ | ⟨_, g⟩ | ⟨_, g⟩ | ⟨h0, h4, h8, _⟩
  · simp [g] at h
  · simp [g] at h
  · simp [g] at h
  · obtain ⟨q0, q1, q2, q3, q4, q5, q6⟩ := offset_patterns
    constructor <;>
    simp only [selectRow, opcodeTable_eq,
      List.find?, rowSelects, and_kindMask, and_kindOffsetMask, kindOf_pack, offsetOf_pack,
      q0, q1, q2, q3, q4, q5, q6, beq_pack_offset h0, beq_pack_offset h4, beq_pack_offset h8] <;>
    decide

/-- An event code that is not `START_RECEIVE` selects the fallback row. -/
theorem select_event {c : Word} (h : c ≠ 0x00000000#32) :
    (selectRow (pack 0x10#8 c 0#32)).map OpRow.mnemonic = some "A.EVENT.OTHER" := by
  obtain ⟨q0, q1, q2, q3, q4, q5, q6⟩ := offset_patterns
  simp only [selectRow, opcodeTable_eq,
    List.find?, rowSelects, and_kindMask, and_kindOffsetMask, kindOf_pack, offsetOf_pack,
    q0, q1, q2, q3, q4, q5, q6, beq_pack_offset h,
    beq_pack_kind (show (0x10#8 : Byte) ≠ 0x00#8 by decide) c,
    beq_pack_kind (show (0x10#8 : Byte) ≠ 0x01#8 by decide) c]
  decide

theorem rdInvalid (offset : Word) : Statement (.rdInvalid offset) := fun h =>
  (select_invalid (by simpa [Instr.wellFormed] using h)).1

theorem wrCtrl (wdata : Word) : Statement (.wrCtrl wdata) := fun _ => by
  simp only [encodeWord, Instr.mnemonic, select_pack _ _ wdata]; decide
theorem wrStatus (wdata : Word) : Statement (.wrStatus wdata) := fun _ => by
  simp only [encodeWord, Instr.mnemonic, select_pack _ _ wdata]; decide
theorem wrData (wdata : Word) : Statement (.wrData wdata) := fun _ => by
  simp only [encodeWord, Instr.mnemonic, select_pack _ _ wdata]; decide

theorem wrInvalid (offset wdata : Word) : Statement (.wrInvalid offset wdata) := fun h => by
  simp only [encodeWord, select_pack _ _ wdata]
  exact (select_invalid (by simpa [Instr.wellFormed] using h)).2

theorem tick : Statement .tick := fun _ => by decide
theorem timerclk : Statement .timerclk := fun _ => by decide
theorem reset : Statement .reset := fun _ => by decide
theorem poweron : Statement .poweron := fun _ => by decide
theorem save : Statement .save := fun _ => by decide
theorem restore (snap : Snapshot) : Statement (.restore snap) := fun _ => by
  simp only [encodeWord, Instr.mnemonic]; decide
theorem extset (v : Word) : Statement (.extset v) := fun _ => by
  simp only [encodeWord, Instr.mnemonic, select_pack _ _ v]; decide
theorem aEventStartReceive : Statement .aEventStartReceive := fun _ => by decide
theorem aEventOther (code : Word) : Statement (.aEventOther code) := fun h =>
  select_event (by simpa [Instr.wellFormed, eventStartReceive] using h)
theorem aTx : Statement .aTx := fun _ => by decide
theorem aRx (b : Byte) : Statement (.aRx b) := fun _ => by
  simp only [encodeWord, Instr.mnemonic, select_pack _ _ (b.setWidth 32)]; decide
theorem aReset : Statement .aReset := fun _ => by decide
theorem aPoweron : Statement .aPoweron := fun _ => by decide

end Sys2Proof.Laws.RowOfEncoding
end

