-- ==== Sys2Proof/Tests/Slice0.lean ====
section
/-! SUPPORT. Tests: the check on ill-formed terms, words written out from the spec, single steps with the
results of the vectors of `spec/95_test_vectors.md`, and a witness for the hypotheses of each statement. -/

namespace Sys2Proof.Tests

open Sys2Proof.Machine

/-! ### States to test on -/

/-- A companion device as it is after power-on (V161). -/
def idleSlave : Ars := ⟨0x00#8, 0x00#8, .needAddress, 0x00#8⟩

/-- A live sensor with the given record and source, beside an idle companion device. -/
def sensor (t : Trs) (ext : Option ExtWord) : State :=
  ⟨t, true, idleSlave, true, ext, .nothing, []⟩

/-- A live companion device with the given record and source, beside an idle sensor. -/
def slave (a : Ars) (ext : Option ExtWord) : State :=
  ⟨⟨0#32, 0#32, 0#32, false, 1⟩, true, a, true, ext, .nothing, []⟩

/-- [C=3 S=2 D=78 F=R n=2], the sensor most vectors start from. -/
def busy : Trs := ⟨0x3#32, 0x2#32, 0x78#32, true, 2⟩

/-- [C=1 S=0 D=0 F=R n=1] -/
def fresh : Trs := ⟨0x1#32, 0x0#32, 0x0#32, true, 1⟩

/-- [C=0 S=2 D=2A F=S n=1] -/
def stopped : Trs := ⟨0x0#32, 0x2#32, 0x2A#32, false, 1⟩

/-- A machine in which neither device is instantiated. -/
def nothingLive : State := ⟨busy, false, idleSlave, false, none, .nothing, []⟩

/-- One step that performs one operation word. -/
def runWord (w : OpWord) (b : Option Snapshot) (s : State) : Host.Outcome State Fault Refusal :=
  step (scheduleFirst w b s)

/-- What a test looks at: a projection of the next state. -/
def seen {α : Type} (f : State → α) (o : Host.Outcome State Fault Refusal) : Option α :=
  match o with
  | .next t => some (f t)
  | .fault _ => none
  | .refused _ => none

/-- The sensor and the level of its output. -/
def sensorOf (s : State) : Trs × Bool := (s.trs, s.irq)

/-- The companion device and what the operation returned. -/
def slaveOf (s : State) : Ars × OpResult := (s.ars, s.result)

/-- What a read returned, and the sensor after it. -/
def readOf (s : State) : OpResult × Trs × Bool := (s.result, s.trs, s.irq)

/-! ### Ill-formed terms are refused by the check (R76, R135) -/

theorem test_wf_rdInvalid : (Instr.rdInvalid 0x00#32).wellFormed = false := by decide
theorem test_wf_wrInvalid : (Instr.wrInvalid 0x04#32 0x1#32).wellFormed = false := by decide
theorem test_wf_aEventOther : (Instr.aEventOther 0x0#32).wellFormed = false := by decide
/-- V120: EN = 1 but not running. -/
theorem test_wf_restore_running :
    (Instr.restore ⟨1#32, 0#32, 0#32, false, 1⟩).wellFormed = false := by decide
/-- V121: STATUS bit 0 set. -/
theorem test_wf_restore_status :
    (Instr.restore ⟨0#32, 1#32, 0#32, false, 1⟩).wellFormed = false := by decide
/-- V122: a reserved bit of CTRL set. -/
theorem test_wf_restore_ctrl :
    (Instr.restore ⟨4#32, 0#32, 0#32, false, 1⟩).wellFormed = false := by decide
/-- V123: DATA above 0xFF. -/
theorem test_wf_restore_data :
    (Instr.restore ⟨0#32, 2#32, 0x100#32, false, 1⟩).wellFormed = false := by decide
/-- V124, first: a count of 0. -/
theorem test_wf_restore_count_low :
    (Instr.restore ⟨1#32, 0#32, 0#32, true, 0⟩).wellFormed = false := by decide
/-- V124, second: a count above `TICK_PERIOD`. -/
theorem test_wf_restore_count_high :
    (Instr.restore ⟨1#32, 0#32, 0#32, true, Config.tickPeriod + 1⟩).wellFormed = false := by
  rw [Bool.eq_false_iff]
  intro h
  exact absurd ((wellFormed_iff_inv _).1 h).2.2.2.2.2.2 (Nat.not_succ_le_self _)
/-- V125: DATA non-zero with IFG = 0. -/
theorem test_wf_restore_sample :
    (Instr.restore ⟨0#32, 0#32, 5#32, false, 1⟩).wellFormed = false := by decide
/-- V119's snapshot is well-formed. -/
theorem test_wf_restore_good :
    (Instr.restore ⟨1#32, 2#32, 0x10#32, true, 1⟩).wellFormed = true := by decide

/-! ### Words of the spec (V170 to V194) and the instructions they stand for -/

theorem test_decode_rdCtrl : decode 0x000000000000000000#72 none = .ok .rdCtrl := by decide
theorem test_decode_rdStatus : decode 0x000000000400000000#72 none = .ok .rdStatus := by decide
theorem test_decode_rdData : decode 0x000000000800000000#72 none = .ok .rdData := by decide
theorem test_decode_rdInvalid :
    decode 0x000000000C00000000#72 none = .ok (.rdInvalid 0x0C#32) := by decide
theorem test_decode_wrCtrl : decode 0x010000000000000003#72 none = .ok (.wrCtrl 3#32) := by decide
theorem test_decode_wrStatus :
    decode 0x010000000400000002#72 none = .ok (.wrStatus 2#32) := by decide
theorem test_decode_wrData :
    decode 0x0100000008000000FF#72 none = .ok (.wrData 0xFF#32) := by decide
theorem test_decode_wrInvalid :
    decode 0x010000000200000001#72 none = .ok (.wrInvalid 2#32 1#32) := by decide
theorem test_decode_tick : decode 0x020000000000000000#72 none = .ok .tick := by decide
/-- V179: offset and wdata ignored. -/
theorem test_decode_tick_ignores : decode 0x02123456789ABCDEF0#72 none = .ok .tick := by decide
theorem test_decode_timerclk : decode 0x030000000000000000#72 none = .ok .timerclk := by decide
theorem test_decode_reset : decode 0x040000000000000000#72 none = .ok .reset := by decide
theorem test_decode_poweron : decode 0x050000000000000000#72 none = .ok .poweron := by decide
theorem test_decode_save : decode 0x060000000000000000#72 none = .ok .save := by decide
theorem test_decode_restore :
    decode 0x070000000000000000#72 (some ⟨1#32, 2#32, 0x10#32, true, 1⟩) =
      .ok (.restore ⟨1#32, 2#32, 0x10#32, true, 1⟩) := by decide
/-- R83: the operand of a `RESTORE` stands beside the word. -/
theorem test_decode_restore_alone :
    decode 0x070000000000000000#72 none = .error .missingSnapshot := by decide
theorem test_decode_extset :
    decode 0x0800000000000000A5#72 none = .ok (.extset 0xA5#32) := by decide
theorem test_decode_startReceive :
    decode 0x100000000000000000#72 none = .ok .aEventStartReceive := by decide
theorem test_decode_startTransmit :
    decode 0x100000000100000000#72 none = .ok (.aEventOther 1#32) := by decide
theorem test_decode_stop :
    decode 0x100000000200000000#72 none = .ok (.aEventOther 2#32) := by decide
theorem test_decode_aTx : decode 0x110000000000000000#72 none = .ok .aTx := by decide
theorem test_decode_aRx : decode 0x12000000000000005A#72 none = .ok (.aRx 0x5A#8) := by decide
/-- V159: `wdata[31:8]` ignored. -/
theorem test_decode_aRx_ignores :
    decode 0x120000000000000101#72 none = .ok (.aRx 0x01#8) := by decide
theorem test_decode_aReset : decode 0x130000000000000000#72 none = .ok .aReset := by decide
theorem test_decode_aPoweron : decode 0x140000000000000000#72 none = .ok .aPoweron := by decide
/-- V186. -/
theorem test_decode_reserved_09 :
    decode 0x090000000000000000#72 none = .error (.reservedKind 0x09#8) := by decide
/-- V187. -/
theorem test_decode_reserved_0F_15_FF :
    decode 0x0F0000000000000000#72 none = .error (.reservedKind 0x0F#8) ∧
    decode 0x150000000000000000#72 none = .error (.reservedKind 0x15#8) ∧
    decode 0xFF0000000000000000#72 none = .error (.reservedKind 0xFF#8) := by decide

/-- The table's numbering of an instruction's bits is that of R71. -/
theorem test_tableWord_bits :
    decodeTableWord 72 0x01_00000000_00000003 = some (.wrCtrl 3#32) ∧
    decodeTableWord 72 0x07_00000000_00000000 = some (.restore idleSnapshot) ∧
    decodeTableWord 72 0x09_00000000_00000000 = none := by decide

/-- A placed word is what the very next step runs. -/
theorem test_withFetchWord :
    seen readOf (step ((sensor busy none).withFetchWord 72 0x00_00000008_00000000)) =
      some (.rdata 0x78#32, busy, true) := by decide

/-- A placed `RESTORE` word has its snapshot beside it. -/
theorem test_withFetchWord_restore :
    seen State.trs (step ((sensor busy none).withFetchWord 72 0x07_00000000_00000000)) =
      some ⟨0#32, 0#32, 0#32, false, 1⟩ := by decide

/-! ### Reads (V4 to V20) -/

/-- V4, V20: the `wdata` field is ignored. -/
theorem test_rdCtrl :
    seen readOf (runWord 0x0000000000DEADBEEF#72 none (sensor busy none)) =
      some (.rdata 0x3#32, busy, true) := by decide
/-- V6: IFG is not cleared. -/
theorem test_rdStatus :
    seen readOf (runWord 0x000000000400000000#72 none (sensor busy none)) =
      some (.rdata 0x2#32, busy, true) := by decide
/-- V9: a read does not sample. -/
theorem test_rdData_no_sample :
    seen readOf (runWord 0x000000000800000000#72 none (sensor fresh (some 0xFF#32))) =
      some (.rdata 0x0#32, fresh, false) := by decide
/-- V13: a stale sample stays readable. -/
theorem test_rdData_stale :
    seen readOf (runWord 0x000000000800000000#72 none (sensor stopped (some 0x11#32))) =
      some (.rdata 0x2A#32, stopped, false) := by decide
/-- V14: the first word after DATA. -/
theorem test_rdInvalid :
    seen readOf (runWord 0x000000000C00000000#72 none (sensor busy none)) =
      some (.rdata 0x0#32, busy, true) := by decide
/-- V18: bit 31 of the offset is compared. -/
theorem test_rdInvalid_no_alias :
    seen readOf (runWord 0x008000000000000000#72 none (sensor busy none)) =
      some (.rdata 0x0#32, busy, true) := by decide

/-! ### Writes (V30 to V56) -/

/-- V34: a restart loads a full period, and a pending flag interrupts at once. -/
theorem test_wrCtrl_start :
    seen sensorOf (runWord 0x010000000000000003#72 none (sensor stopped none)) =
      some (⟨0x3#32, 0x2#32, 0x2A#32, true, Config.tickPeriod⟩, true) := rfl
/-- V39, with the reserved bits of V44 set: stopped, the count kept. -/
theorem test_wrCtrl_stop :
    seen sensorOf (runWord 0x0100000000FFFFFFFE#72 none (sensor busy none)) =
      some (⟨0x2#32, 0x2#32, 0x78#32, false, 2⟩, false) := by decide
/-- V47: no write-1-to-clear. -/
theorem test_wrStatus :
    seen sensorOf (runWord 0x010000000400000002#72 none (sensor busy none)) =
      some (busy, true) := by decide
/-- V50: IFG cannot be set from the bus. -/
theorem test_wrStatus_sets_nothing :
    seen sensorOf (runWord 0x0100000004FFFFFFFF#72 none (sensor fresh none)) =
      some (fresh, false) := by decide
/-- V51. -/
theorem test_wrData :
    seen sensorOf (runWord 0x010000000800000000#72 none (sensor busy none)) =
      some (busy, true) := by decide
/-- V56: no alias of CTRL, the timer is not stopped. -/
theorem test_wrInvalid :
    seen sensorOf (runWord 0x010000010000000000#72 none (sensor busy none)) =
      some (busy, true) := by decide

/-! ### The timer and the interrupt (V60 to V103) -/

/-- V69: truncation of the source; `irq` stays 0 without IEN. -/
theorem test_tick :
    seen sensorOf (runWord 0x020000000000000000#72 none (sensor fresh (some 0x12345678#32))) =
      some (⟨0x1#32, 0x2#32, 0x78#32, true, 1⟩, false) := by decide
/-- V72: no step while the timer is stopped. -/
theorem test_tick_stopped : exec .tick (sensor stopped none) = .fault .tickWhileStopped := rfl
/-- V81: one clock nearer the tick. -/
theorem test_timerclk_counts :
    seen sensorOf (runWord 0x030000000000000000#72 none (sensor busy (some 0x41#32))) =
      some (⟨0x3#32, 0x2#32, 0x78#32, true, 1⟩, true) := by decide
/-- V82: at 1 the tick fires and the count is reloaded. -/
theorem test_timerclk_fires :
    seen sensorOf (runWord 0x030000000000000000#72 none (sensor fresh (some 0x41#32))) =
      some (⟨0x1#32, 0x2#32, 0x41#32, true, Config.tickPeriod⟩, false) := rfl
/-- V90 to V97: `Irq` on its whole domain. -/
theorem test_irq_truth_table :
    (sensor ⟨0#32, 0#32, 0#32, false, 1⟩ none).irq = false ∧
    (sensor ⟨0#32, 2#32, 0#32, false, 1⟩ none).irq = false ∧
    (sensor ⟨2#32, 0#32, 0#32, false, 1⟩ none).irq = false ∧
    (sensor ⟨2#32, 2#32, 0#32, false, 1⟩ none).irq = false ∧
    (sensor ⟨1#32, 0#32, 0#32, true, 1⟩ none).irq = false ∧
    (sensor ⟨1#32, 2#32, 0#32, true, 1⟩ none).irq = false ∧
    (sensor ⟨3#32, 0#32, 0#32, true, 1⟩ none).irq = false ∧
    (sensor ⟨3#32, 2#32, 0#32, true, 1⟩ none).irq = true := by decide

/-! ### System operations (V110 to V127) -/

/-- V111: registers zeroed, timer stopped, the line falls. -/
theorem test_reset :
    seen sensorOf (runWord 0x040000000000000000#72 none (sensor busy (some 7#32))) =
      some (⟨0#32, 0#32, 0#32, false, Config.tickPeriod⟩, false) := rfl
/-- V111: the source is untouched. -/
theorem test_reset_keeps_source :
    seen State.ext (runWord 0x040000000000000000#72 none (sensor busy (some 7#32))) =
      some (some 7#32) := by decide
/-- V110: power-on from no state. -/
theorem test_poweron :
    seen sensorOf (runWord 0x050000000000000000#72 none nothingLive) =
      some (⟨0#32, 0#32, 0#32, false, Config.tickPeriod⟩, false) := rfl
/-- V115. -/
theorem test_save :
    seen readOf (runWord 0x060000000000000000#72 none (sensor busy none)) =
      some (.snapshot ⟨3#32, 2#32, 0x78#32, true, 2⟩, busy, true) := by decide
/-- V119: raw, no hook and no reload. -/
theorem test_restore :
    seen sensorOf (runWord 0x070000000000000000#72 (some ⟨1#32, 2#32, 0x10#32, true, 1⟩)
      (sensor busy none)) = some (⟨1#32, 2#32, 0x10#32, true, 1⟩, false) := by decide
/-- V120: an ill-formed snapshot is refused. -/
theorem test_restore_refused :
    exec (.restore ⟨1#32, 0#32, 0#32, false, 1⟩) (sensor busy none) =
      .refused .illFormedSnapshot := rfl
/-- V126: the source changes, DATA does not. -/
theorem test_extset :
    seen (fun s => (s.ext, s.trs)) (runWord 0x080000000000000099#72 none (sensor busy (some 0x78#32))) =
      some (some 0x99#32, busy) := by decide

/-! ### The companion device (V140 to V161) -/

/-- V140: the low byte of the source. -/
theorem test_startReceive :
    seen slaveOf (runWord 0x100000000000000000#72 none
      (slave ⟨0x01#8, 0x00#8, .needData, 0x01#8⟩ (some 0x15A#32))) =
      some (⟨0x01#8, 0x5A#8, .needAddress, 0x01#8⟩, .success) := by decide
/-- V144: only bit 0 of CTRL enables. -/
theorem test_startReceive_disabled :
    seen slaveOf (runWord 0x100000000000000000#72 none
      (slave ⟨0xFE#8, 0x5A#8, .needAddress, 0x01#8⟩ (some 0x77#32))) =
      some (⟨0xFE#8, 0x00#8, .needAddress, 0x01#8⟩, .success) := by decide
/-- V147: an unnamed event kind. -/
theorem test_eventOther :
    seen slaveOf (runWord 0x100000000700000000#72 none
      (slave ⟨0x01#8, 0x00#8, .needData, 0x01#8⟩ (some 0x77#32))) =
      some (⟨0x01#8, 0x00#8, .needAddress, 0x01#8⟩, .success) := by decide
/-- V149: post-increment past the last register. -/
theorem test_aTx :
    seen slaveOf (runWord 0x110000000000000000#72 none
      (slave ⟨0x01#8, 0x5A#8, .needAddress, 0x01#8⟩ none)) =
      some (⟨0x01#8, 0x5A#8, .needAddress, 0x02#8⟩, .byte 0x5A#8) := by decide
/-- V151: the sentinel, no wrap to 0. -/
theorem test_aTx_sentinel :
    seen slaveOf (runWord 0x110000000000000000#72 none
      (slave ⟨0x01#8, 0x5A#8, .needData, 0xFF#8⟩ none)) =
      some (⟨0x01#8, 0x5A#8, .needData, 0xFF#8⟩, .byte 0xFF#8) := by decide
/-- V154: the address byte. -/
theorem test_aRx_address :
    seen slaveOf (runWord 0x120000000000000005#72 none
      (slave ⟨0x00#8, 0x00#8, .needAddress, 0x00#8⟩ none)) =
      some (⟨0x00#8, 0x00#8, .needData, 0x05#8⟩, .success) := by decide
/-- V156: a data byte, stored whole. -/
theorem test_aRx_data :
    seen slaveOf (runWord 0x1200000000000000FE#72 none
      (slave ⟨0x00#8, 0x00#8, .needData, 0x00#8⟩ none)) =
      some (⟨0xFE#8, 0x00#8, .needData, 0x01#8⟩, .success) := by decide
/-- V160: the pointer survives. -/
theorem test_aReset :
    seen slaveOf (runWord 0x130000000000000000#72 none
      (slave ⟨0x01#8, 0x5A#8, .needData, 0x02#8⟩ none)) =
      some (⟨0x00#8, 0x00#8, .needAddress, 0x02#8⟩, .nothing) := by decide
/-- V161. -/
theorem test_aPoweron :
    seen slaveOf (runWord 0x140000000000000000#72 none nothingLive) =
      some (⟨0x00#8, 0x00#8, .needAddress, 0x00#8⟩, .nothing) := by decide

/-! ### Where a step stops -/

/-- V186: a reserved kind. -/
theorem test_reserved_kind :
    runWord 0x090000000000000000#72 none (sensor busy none) = .fault (.reservedKind 0x09#8) := rfl
/-- R220: nothing before `POWERON`. -/
theorem test_before_poweron : exec .rdCtrl nothingLive = .fault .trsAbsent := rfl
/-- R164: the same of the companion device. -/
theorem test_before_aPoweron : exec .aTx nothingLive = .fault .arsAbsent := rfl
/-- R236: a block that does not run is quiescent. -/
theorem test_quiescent : step (sensor stopped none) = .fault .quiescent := rfl
/-- R53: an access of one byte. -/
theorem test_boundary_narrow :
    performAccess ⟨.read, 0x00#32, 1, 0#32⟩ (sensor busy none) = .refused .accessWidth := rfl
/-- R53: an access of eight bytes. -/
theorem test_boundary_wide :
    performAccess ⟨.write, 0x00#32, 8, 0#32⟩ (sensor busy none) = .refused .accessWidth := rfl
/-- R54: a misaligned access. -/
theorem test_boundary_misaligned :
    performAccess ⟨.write, 0x02#32, 4, 0#32⟩ (sensor busy none) = .refused .misalignedAccess := rfl
/-- R65: a fetch. -/
theorem test_boundary_fetch :
    performAccess ⟨.fetch, 0x00#32, 4, 0#32⟩ (sensor busy none) = .refused .fetchFromWindow := rfl
/-- R53: an aligned word is forwarded. -/
theorem test_boundary_forwards :
    seen readOf (performAccess ⟨.read, 0x08#32, 4, 0#32⟩ (sensor busy none)) =
      some (.rdata 0x78#32, busy, true) := by decide
/-- R55: in the default byte order DATA.SAMPLE is the byte at offset 8. -/
theorem test_byte_view_little : windowByte .little busy 0x08#32 = 0x78#8 := by decide
/-- R55: in the other byte order it is the last byte of the word. -/
theorem test_byte_view_big : windowByte .big busy 0x0B#32 = 0x78#8 := by decide

/-! ### Witnesses: the hypotheses of each statement, met together

Each theorem is named after the statement of `Certificates/Slice0/Obligations.lean` whose hypotheses it
meets; where a statement has clauses over one input, each clause is met at the edges of its range. -/

theorem witness_DecodeOfEncodeIsTheInstruction :
    (Instr.rdInvalid 0x01#32).wellFormed = true ∧ (Instr.rdInvalid 0xFFFFFFFF#32).wellFormed = true ∧
    (Instr.wrInvalid 0x09#32 0xFFFFFFFF#32).wellFormed = true ∧
    (Instr.aEventOther 1#32).wellFormed = true ∧ (Instr.aRx 0xFF#8).wellFormed = true ∧
    (Instr.restore idleSnapshot).wellFormed = true := by decide

/-- One word per clause of the mask, its ignored fields set. -/
theorem witness_EncodeOfDecodeKeepsTheUsedFields :
    decode 0x0000000004FFFFFFFF#72 none = .ok .rdStatus ∧
    decode 0x1000000001FFFFFFFF#72 none = .ok (.aEventOther 1#32) ∧
    decode 0x01FFFFFFFFFFFFFFFF#72 none = .ok (.wrInvalid 0xFFFFFFFF#32 0xFFFFFFFF#32) ∧
    decode 0x08FFFFFFFF00000001#72 none = .ok (.extset 1#32) ∧
    decode 0x12FFFFFFFFFFFFFFFF#72 none = .ok (.aRx 0xFF#8) ∧
    decode 0x14FFFFFFFFFFFFFFFF#72 none = .ok .aPoweron := by decide

/-- Each outcome of the decoder, at the edges of the kinds. -/
theorem witness_DecoderFollowsTheOpcodeTable :
    (selectRow 0x08FFFFFFFFFFFFFFFF#72).map OpRow.mnemonic = some "EXTSET" ∧
    (selectRow 0x100000000000000000#72).map OpRow.mnemonic = some "A.EVENT.START_RECEIVE" ∧
    (selectRow 0x100000000100000000#72).map OpRow.mnemonic = some "A.EVENT.OTHER" ∧
    selectRow 0x090000000000000000#72 = none ∧ selectRow 0x150000000000000000#72 = none ∧
    (selectRow 0x070000000000000000#72).map OpRow.mnemonic = some "RESTORE" := by decide

theorem witness_DecodedInstructionsAreWellFormed :
    decode 0x070000000000000000#72 (some idleSnapshot) = .ok (.restore idleSnapshot) ∧
    ∀ n, some idleSnapshot = some n → n.wellFormed = true :=
  ⟨rfl, fun n h => by cases h; decide⟩

/-- The clauses at the edges: the three offsets and their neighbours. -/
theorem witness_OffsetDecodeComparesAllBits :
    decodeReg 0x00#32 = .ctrl ∧ decodeReg 0x01#32 = .invalid ∧ decodeReg 0x04#32 = .status ∧
    decodeReg 0x08#32 = .data ∧ decodeReg 0x0C#32 = .invalid ∧ decodeReg 0x80000000#32 = .invalid ∧
    decodeReg 0xFFFFFFFC#32 = .invalid := by decide

/-- Both ranges of reserved kinds, at their edges. -/
theorem witness_ReservedKindHasNoStep :
    (scheduleFirst 0x090000000000000000#72 none (sensor busy none)).schedule =
      [.op 0x090000000000000000#72 none] ∧
    (0x08 < (kindOf 0x090000000000000000#72).toNat ∧ (kindOf 0x090000000000000000#72).toNat < 0x10) ∧
    (0x08 < (kindOf 0x0F0000000000000000#72).toNat ∧ (kindOf 0x0F0000000000000000#72).toNat < 0x10) ∧
    0x14 < (kindOf 0x150000000000000000#72).toNat ∧ 0x14 < (kindOf 0xFF0000000000000000#72).toNat := by
  decide

theorem witness_StepExecutesTheDecodedInstruction :
    (scheduleFirst 0x110000000000000000#72 none (sensor busy none)).schedule =
      [.op 0x110000000000000000#72 none] ∧
    decode 0x110000000000000000#72 none = .ok .aTx := by decide

/-- A running block, and one that is stopped, and one that is absent, with nothing scheduled. -/
theorem witness_StepAloneCountsTheTimer :
    ((sensor busy none).schedule = [] ∧ (sensor busy none).trsLive = true ∧
      (sensor busy none).trs.timerRunning = true) ∧
    ((sensor stopped none).schedule = [] ∧ (sensor stopped none).trs.timerRunning = false) ∧
    (nothingLive.schedule = [] ∧ nothingLive.trsLive = false) := by decide

/-- One access per clause, at the edges: width 3 and 5, offset 3 and 9, and the forwarded ones. -/
theorem witness_BoundaryForwardsAlignedWordsOnly :
    admitAccess ⟨.fetch, 0x00#32, 4, 0#32⟩ = .error .fetchFromWindow ∧
    admitAccess ⟨.read, 0x00#32, 3, 0#32⟩ = .error .accessWidth ∧
    admitAccess ⟨.write, 0x00#32, 5, 0#32⟩ = .error .accessWidth ∧
    admitAccess ⟨.read, 0x03#32, 4, 0#32⟩ = .error .misalignedAccess ∧
    admitAccess ⟨.write, 0x09#32, 4, 0#32⟩ = .error .misalignedAccess ∧
    admitAccess ⟨.read, 0x0C#32, 4, 0#32⟩ = .ok 0x000000000C00000000#72 ∧
    admitAccess ⟨.write, 0x00#32, 4, 3#32⟩ = .ok 0x010000000000000003#72 := ⟨rfl, rfl, rfl, rfl, rfl, rfl, rfl⟩

/-- Both ends of a word. -/
theorem witness_LittleEndianByteView : (0 : Nat) < 4 ∧ (3 : Nat) < 4 := by decide

theorem witness_InitialValuesAfterPowerOnAndReset : (sensor busy none).trsLive = true := by decide

/-- A state with the invariants in which a step is possible: the tick fires. -/
theorem witness_EveryStepKeepsInv :
    (sensor fresh none).Inv ∧ ∃ t, step (sensor fresh none) = .next t :=
  ⟨⟨by decide, Or.inl rfl, by decide, fun _ => rfl, by decide, Nat.le_refl 1, one_le_tickPeriod⟩, _, rfl⟩

/-- Two operations from the state after reset. -/
theorem witness_InvHoldsInEveryReachableState :
    ∃ t, Host.Core.run Sys2Proof.core 2 { State.reset with
      schedule := [.op 0x010000000000000001#72 none, .op 0x020000000000000000#72 none] } = .next t :=
  ⟨_, rfl⟩

theorem witness_RdReturnsTheWindowValue : (sensor busy none).trsLive = true := by decide

/-- Invalid offsets at the edges of the window. -/
theorem witness_ReadFormsReturnTheirRegister :
    (sensor busy none).trsLive = true ∧ (0x01#32 : Word) ≠ 0x00#32 ∧ (0x0C#32 : Word) ≠ 0x08#32 ∧
    (0x0C#32 : Word) ≠ 0x04#32 ∧ (0x0C#32 : Word) ≠ 0x00#32 := by decide

theorem witness_ReadsHaveNoSideEffect :
    ∃ t, exec (.rdInvalid 0x0C#32) (sensor busy none) = .next t := ⟨_, rfl⟩

theorem witness_WrCtrlStoresTwoBitsAndRunsItsHook : (sensor stopped none).trsLive = true := by decide

theorem witness_WritingCtrlTwiceIsWritingItOnce :
    ∃ t, exec (.wrCtrl 0xFFFFFFFF#32) (sensor stopped none) = .next t := ⟨_, rfl⟩

theorem witness_WrStatusChangesNothing : (sensor busy none).trsLive = true := by decide

theorem witness_WrDataIsDropped : (sensor busy none).trsLive = true := by decide

/-- The first word past the window and the last word of all. -/
theorem witness_WrInvalidIsDropped :
    (sensor busy none).trsLive = true ∧
    ((0x0C#32 : Word) ≠ 0x00#32 ∧ (0x0C#32 : Word) ≠ 0x04#32 ∧ (0x0C#32 : Word) ≠ 0x08#32) ∧
    ((0xFFFFFFFC#32 : Word) ≠ 0x00#32 ∧ (0xFFFFFFFC#32 : Word) ≠ 0x04#32 ∧
      (0xFFFFFFFC#32 : Word) ≠ 0x08#32) := by decide

theorem witness_FrameOfReadsSaveAndDroppedWrites :
    (∃ t, exec .save (sensor busy none) = .next t) ∧
    ∃ t, exec (.wrInvalid 0x0C#32 3#32) (sensor busy none) = .next t := ⟨⟨_, rfl⟩, _, rfl⟩

/-- The first byte past CTRL's four. -/
theorem witness_FrameOfWrCtrl :
    (∃ t, exec (.wrCtrl 2#32) (sensor busy none) = .next t) ∧ 4 ≤ (0x04#32 : Word).toNat :=
  ⟨⟨_, rfl⟩, by decide⟩

theorem witness_TickSamplesAndSetsIfg :
    (sensor fresh (some 0x100#32)).trsLive = true ∧
    (sensor fresh (some 0x100#32)).trs.timerRunning = true := by decide

theorem witness_TickOfAStoppedTimerHasNoStep :
    (sensor stopped none).trsLive = true ∧ (sensor stopped none).trs.timerRunning = false := by decide

/-- Each branch: stopped, at 1, above 1. -/
theorem witness_TimerclkCountsDownAndTicks :
    ((sensor stopped none).trsLive = true ∧ (sensor stopped none).trs.timerRunning = false) ∧
    ((sensor fresh none).trs.timerRunning = true ∧ (sensor fresh none).trs.timerCount = 1) ∧
    ((sensor busy none).trs.timerRunning = true ∧ (sensor busy none).trs.timerCount = 2) := by decide

/-- The last byte before STATUS and the first after DATA. -/
theorem witness_FrameOfTheTimerOperations :
    (∃ t, exec .tick (sensor fresh none) = .next t) ∧
    (∃ t, exec .timerclk (sensor fresh none) = .next t) ∧
    (0x03#32 : Word).toNat < 4 ∧ 12 ≤ (0x0C#32 : Word).toNat :=
  ⟨⟨_, rfl⟩, ⟨_, rfl⟩, by decide, by decide⟩

/-- A count of 2: the clocks 0 and 1 are below it. -/
theorem witness_RunningTimerTicksWhenItsCountIsOut :
    (sensor busy none).trsLive = true ∧ (sensor busy none).trs.timerRunning = true ∧
    1 ≤ (sensor busy none).trs.timerCount ∧ 0 < (sensor busy none).trs.timerCount ∧
    1 < (sensor busy none).trs.timerCount := by decide

theorem witness_TicksComeEveryTickPeriodFromTheStart :
    (∃ u, exec (.wrCtrl 1#32) (sensor stopped none) = .next u) ∧
    (sensor stopped none).trs.timerRunning = false ∧ (1#32 : Word).getLsbD 0 = true ∧
    0 < Config.tickPeriod :=
  ⟨⟨_, rfl⟩, rfl, by decide, one_le_tickPeriod⟩

theorem witness_IrqIsTheAndOfThreeBits : (sensor busy none).trsLive = true := by decide

/-- A write that raises the output, and one that lowers it. -/
theorem witness_IrqChangesOnlyWhereTheTableSays :
    ((sensor stopped none).irq = false ∧
      ∃ t, exec (.wrCtrl 3#32) (sensor stopped none) = .next t ∧ t.irq = true) ∧
    ((sensor busy none).irq = true ∧
      ∃ t, exec (.wrCtrl 1#32) (sensor busy none) = .next t ∧ t.irq = false) :=
  ⟨⟨rfl, _, rfl, rfl⟩, rfl, _, rfl, rfl⟩

/-- A live block with the invariants. -/
theorem witness_SaveYieldsTheStateUnchanged :
    (sensor fresh none).trsLive = true ∧ (sensor fresh none).Inv :=
  ⟨rfl, witness_EveryStepKeepsInv.1⟩

theorem witness_RestoreWritesTheSnapshotVerbatim :
    (sensor busy none).trsLive = true ∧
    (⟨1#32, 2#32, 0x10#32, true, 1⟩ : Snapshot).wellFormed = true := by decide

theorem witness_RestoreRefusesIllFormedSnapshots :
    (sensor busy none).trsLive = true ∧
    (⟨1#32, 0#32, 0#32, false, 1⟩ : Snapshot).wellFormed = false := by decide

theorem witness_SaveThenRestoreGivesTheStateBack :
    (sensor fresh none).Inv ∧ (sensor fresh none).trsLive = true ∧
    (sensor stopped none).trsLive = true :=
  ⟨witness_EveryStepKeepsInv.1, rfl, rfl⟩

theorem witness_ResetZeroesAndStops : (sensor busy none).trsLive = true := by decide

/-- No block, and an operation that is not its creation. -/
theorem witness_PoweronCreatesTheBlock :
    nothingLive.trsLive = false ∧ Instr.device .rdCtrl = .trs ∧ Instr.rdCtrl ≠ .poweron := by decide

theorem witness_FrameOfTheSystemOperations :
    (∃ t, exec .reset (sensor busy none) = .next t) ∧
    (∃ t, exec .poweron nothingLive = .next t) ∧
    (∃ t, exec (.restore idleSnapshot) (sensor busy none) = .next t) ∧
    ∃ t, exec (.extset 7#32) (sensor busy none) = .next t :=
  ⟨⟨_, rfl⟩, ⟨_, rfl⟩, ⟨_, rfl⟩, _, rfl⟩

/-- Pointers 0, 1 and 2, with enable set and clear. -/
theorem witness_StartReceiveRefreshesData :
    (slave ⟨0x01#8, 0#8, .needData, 0x01#8⟩ none).arsLive = true ∧
    (slave ⟨0xFE#8, 0#8, .needData, 0x01#8⟩ none).arsLive = true ∧
    (slave ⟨0x01#8, 0#8, .needData, 0x00#8⟩ none).arsLive = true ∧
    (slave ⟨0x01#8, 0#8, .needData, 0x02#8⟩ none).arsLive = true := by decide

theorem witness_OtherEventsOnlyEndTheTransfer :
    (slave idleSlave none).arsLive = true ∧ (1#32 : Word) ≠ 0#32 ∧ (0xFFFFFFFF#32 : Word) ≠ 0#32 := by
  decide

/-- The last pointer in range and the first out of it. -/
theorem witness_TransmitReturnsTheSelectedRegister :
    (slave ⟨0#8, 0#8, .needAddress, 0x01#8⟩ none).arsLive = true ∧ ¬ 2 ≤ (0x01#8 : Byte).toNat ∧
    2 ≤ (0x02#8 : Byte).toNat ∧ 2 ≤ (0xFF#8 : Byte).toNat := by decide

theorem witness_ReceiveTakesAddressThenData : (slave idleSlave none).arsLive = true := by decide

theorem witness_ArsResetKeepsThePointer : (slave idleSlave none).arsLive = true := by decide

theorem witness_FrameOfTheCompanionDevice :
    Instr.device (.aRx 1#8) = .ars ∧ ∃ t, exec (.aRx 1#8) (slave idleSlave none) = .next t :=
  ⟨rfl, _, rfl⟩

theorem witness_CanonicalTransactions :
    (slave ⟨0x01#8, 0#8, .needData, 0x02#8⟩ none).arsLive = true ∧
    (slave ⟨0x01#8, 0#8, .needData, 0x02#8⟩ none).ars.ctrl.getLsbD 0 = true := by decide

/-- A data byte, an event and a request, at the first pointer out of range; and what the check refuses. -/
theorem witness_SentinelUntilReaddressed :
    ((slave ⟨0x01#8, 0#8, .needData, 0x02#8⟩ none).arsLive = true ∧
      2 ≤ (slave ⟨0x01#8, 0#8, .needData, 0x02#8⟩ none).ars.pointer.toNat) ∧
    (∀ i ∈ [Instr.aRx 0x00#8, .aEventStartReceive, .aTx], i.wellFormed = true) ∧
    noAddressByte .needData [.aRx 0x00#8, .aEventStartReceive, .aTx] = true ∧
    (∃ u, runOps [.aRx 0x00#8, .aEventStartReceive, .aTx]
      (slave ⟨0x01#8, 0#8, .needData, 0x02#8⟩ none) = .next u) ∧
    noAddressByte .needData [.aEventOther 1#32, .aRx 0x00#8] = false ∧
    noAddressByte .needData [.aPoweron] = false :=
  ⟨by decide, by decide, by decide, ⟨_, rfl⟩, by decide, by decide⟩

theorem witness_SequentialReadFromCtrlIsStale : (slave idleSlave none).arsLive = true := by decide

theorem witness_ArsSaveAndRestoreAreVerbatim :
    (slave idleSlave none).arsLive = true ∧
    ((slave idleSlave none).setSchedule [.arsSave]).schedule = [.arsSave] ∧
    ((slave idleSlave none).setSchedule [.arsRestore idleSlave]).schedule = [.arsRestore idleSlave] := by
  decide

/-- A `TICK` of a running timer, and a `RESTORE` of a well-formed snapshot. -/
theorem witness_EveryOperationCompletes :
    ((sensor busy none).trsLive = true ∧ (sensor busy none).arsLive = true) ∧
    (Instr.tick = .tick → (sensor busy none).trs.timerRunning = true) ∧
    ∀ n, Instr.restore idleSnapshot = .restore n → n.wellFormed = true :=
  ⟨⟨rfl, rfl⟩, fun _ => rfl, fun n h => by cases h; decide⟩

/-- IFG set, IFG cleared, DATA, CTRL and the timer changed. -/
theorem witness_WhoWritesTheRegisters :
    (∃ t, exec .tick (sensor fresh (some 5#32)) = .next t ∧
      (sensor fresh (some 5#32)).trs.status.getLsbD 1 = false ∧ t.trs.status.getLsbD 1 = true ∧
      t.trs.data ≠ (sensor fresh (some 5#32)).trs.data) ∧
    ∃ t, exec .reset (sensor busy none) = .next t ∧
      (sensor busy none).trs.status.getLsbD 1 = true ∧ t.trs.status.getLsbD 1 = false ∧
      t.trs.ctrl ≠ (sensor busy none).trs.ctrl ∧
      t.trs.timerRunning ≠ (sensor busy none).trs.timerRunning :=
  ⟨⟨_, rfl, rfl, rfl, by decide⟩, _, rfl, rfl, rfl, by decide, by decide⟩

/-- A stopped timer, an allowed write, and a run of both operations. -/
theorem witness_NoTickUntilEnIsSetAgain :
    (sensor stopped none).trs.timerRunning = false ∧
    (∀ i ∈ [Instr.wrCtrl 2#32, .timerclk], i.wellFormed = true ∧
      (∀ v, i = .wrCtrl v → v.getLsbD 0 = false) ∧ ∀ n, i ≠ .restore n) ∧
    ∃ t, runOps [.wrCtrl 2#32, .timerclk] (sensor stopped none) = .next t := by
  refine ⟨rfl, ?_, _, rfl⟩
  intro i hi
  simp only [List.mem_cons, List.not_mem_nil, or_false] at hi
  rcases hi with rfl | rfl
  · exact ⟨rfl, fun v h => (by cases h; decide), fun n h => (by cases h)⟩
  · exact ⟨rfl, fun v h => (by cases h), fun n h => (by cases h)⟩

theorem witness_OnlyExtsetWritesTheSource :
    ∃ t, exec (.extset 7#32) (sensor busy none) = .next t ∧ t.ext ≠ (sensor busy none).ext :=
  ⟨_, rfl, by decide⟩

/-- Two sources that differ above bit 7 only. -/
theorem witness_OnlyTheLowByteOfTheSourceIsSeen :
    (∃ t, exec .tick (sensor fresh (some 0x15A#32)) = .next t) ∧
    (0xFF5A#32 : Word).extractLsb' 0 8 = ((some 0x15A#32).getD 0#32 : Word).extractLsb' 0 8 :=
  ⟨⟨_, rfl⟩, by decide⟩

theorem witness_TheDevicesAreIndependent :
    (∃ t, exec .tick (sensor fresh none) = .next t) ∧ Instr.device .tick = .trs ∧
    (∃ t, exec .aTx (sensor fresh none) = .next t) ∧ Instr.device .aTx = .ars :=
  ⟨⟨_, rfl⟩, rfl, ⟨_, rfl⟩, rfl⟩

/-- A running timer with clocks left, a count of 1, and a stopped timer. -/
theorem witness_PseudoOperationsHaveTheirEffect :
    ((sensor busy none).trsLive = true ∧ (sensor busy none).trs.timerRunning = true ∧
      1 < (sensor busy none).trs.timerCount) ∧
    ((sensor fresh none).trsLive = true ∧ (sensor fresh none).trs.timerRunning = true ∧
      (sensor fresh none).trs.timerCount = 1 ∧ 0 < Config.tickPeriod) ∧
    ((sensor stopped none).trsLive = true ∧ (sensor stopped none).trs.timerRunning = false) :=
  ⟨by decide, ⟨by decide, by decide, by decide, Nat.succ_pos _⟩, by decide⟩

/-- Every row of the race table: no flag yet, a write that clears EN, a count of 1. -/
theorem witness_RacesWithATick :
    (sensor fresh (some 0x33#32)).trsLive = true ∧
    (sensor fresh (some 0x33#32)).trs.timerRunning = true ∧
    (sensor fresh (some 0x33#32)).trs.status = 0#32 ∧ (2#32 : Word).getLsbD 0 = false ∧
    (sensor fresh (some 0x33#32)).trs.timerCount = 1 := by decide

/-- The examples of the table of R78, letter for letter. -/
theorem test_texts :
    Instr.rdData.text "" = "RD 0x08" ∧ (Instr.wrCtrl 3#32).text "" = "WR 0x00, 0x00000003" ∧
    Instr.save.text "s1" = "SAVE -> s1" ∧ (Instr.extset 0xA5#32).text "" = "EXTSET 0x000000A5" := by decide

/-- The expansions that repeat an operation (R79); the other four are in `Laws/Decode.lean`. -/
theorem test_pseudo_expansions :
    (PseudoOp.ticks 2).expand = [.tick, .tick] ∧ (PseudoOp.wait 2).expand = [.timerclk, .timerclk] := by
  decide

/-- The constants of R9 and what is computed from them. -/
theorem test_constants :
    (regWidth, extWidth, numRegs, regStride, sampleWidth) = (32, 32, 3, 4, 8) ∧
    (ctrlWriteMask, ifgMask) = (0x3#32, 0x2#32) ∧ accessWidthBytes = 4 := by decide

end Sys2Proof.Tests
end

section
/-! The statements about the encoding: the offset decode (R73). -/
namespace Sys2Proof.Proofs.Encoding

open Sys2Proof.Machine

/-- Settles O6: the four cases of the offset decode exclude each other, so each answer names its offset. -/
theorem offsetDecodeComparesAllBits : Obligations.OffsetDecodeComparesAllBits := by
  intro o
  rcases decodeReg_cases o with ⟨rfl, h⟩ | ⟨rfl, h⟩ | ⟨rfl, h⟩ | ⟨h0, h4, h8, h⟩
  case inl => simp [h]
  case inr.inl => simp [h]
  case inr.inr.inl => simp [h]
  case inr.inr.inr => simp [h, h0, h4, h8]

end Sys2Proof.Proofs.Encoding
end

section
/-! The statements about the reads (`spec/40_register_read.md`): the form an offset selects is the bus read
of that offset. -/
namespace Sys2Proof.Proofs.RegisterRead

open Sys2Proof.Machine

/-- A change of the result leaves the interrupt output alone: it is a function of the sensor (R29, R120). -/
@[simp] theorem setResult_irq (r : OpResult) (s : State) : (s.setResult r).irq = s.irq := rfl

/-- Whichever form an offset selects, its meaning is the bus read of that offset (R90). -/
theorem exec_decodeRead (o : Word) (s : State) : exec (decodeRead o) s = busRead o s := by
  rcases decodeReg_cases o with ⟨rfl, -⟩ | ⟨rfl, -⟩ | ⟨rfl, -⟩ | ⟨-, -, -, h⟩
  case inl => rfl
  case inr.inl => rfl
  case inr.inr.inl => rfl
  case inr.inr.inr => simp [decodeRead, exec, execRdInvalid, busRead, readWindow, h]

/-- On a live sensor a bus read completes with the value of the window, and changes the result alone (R57). -/
theorem busRead_live {s : State} (o : Word) (h : s.trsLive = true) :
    busRead o s = .next (s.setResult (.rdata (readWindow s.trs o))) := by
  rw [busRead, onTrs_live h, complete_eq_next]

/-- Settles O16: the word decodes to the form of its offset, which is the bus read of that offset. -/
theorem rdReturnsTheWindowValue : Obligations.RdReturnsTheWindowValue := by
  intro s o d b hlive
  have hdecode : decode (pack 0x00#8 o d) b = .ok (decodeRead o) := decode_pack .rd o d b
  have hexec : exec (decodeRead o) s = .next (s.setResult (.rdata (readWindow s.trs o))) := by
    rw [exec_decodeRead, busRead_live o hlive]
  refine ⟨_, _, hdecode, hexec, ?_, setResult_irq _ s⟩
  rw [readWindow_spec]
  rfl

end Sys2Proof.Proofs.RegisterRead
end

section
/-! The statements about the writes that store nothing (`spec/41_register_write.md`): STATUS, DATA and every
offset that is no register's have one common meaning, the completion that changes the result alone. -/
namespace Sys2Proof.Proofs.RegisterWrite

open Sys2Proof.Machine
open Sys2Proof.Proofs.RegisterRead (setResult_irq)

/-- A `WR` word decodes to the form its offset selects (R100). -/
theorem decode_wr (o v : Word) (b : Option Snapshot) :
    decode (pack 0x01#8 o v) b = .ok (decodeWrite o v) := decode_pack .wr o v b

/-- An offset that is no register's selects the fallback form (R73, R106). -/
theorem decodeWrite_invalid {o : Word} (v : Word) (h0 : o ≠ 0x00#32) (h4 : o ≠ 0x04#32)
    (h8 : o ≠ 0x08#32) : decodeWrite o v = .wrInvalid o v := by
  rcases decodeReg_cases o with ⟨h, -⟩ | ⟨h, -⟩ | ⟨h, -⟩ | ⟨-, -, -, h⟩
  case inl => exact absurd h h0
  case inr.inl => exact absurd h h4
  case inr.inr.inl => exact absurd h h8
  case inr.inr.inr => simp [decodeWrite, h]

/-- The hook of STATUS re-evaluates the output, which is not stored: no register changes (R29, R104). -/
theorem onStatusWrite_eq_self (t : Trs) : onStatusWrite t = t := rfl

/-- A state that is given its own sensor again is the same state. -/
theorem setTrs_self (s : State) : s.setTrs s.trs = s := rfl

/-- A write of STATUS is a dropped write: its hook leaves the sensor as it is (R104). -/
theorem exec_wrStatus (v : Word) (s : State) :
    exec (.wrStatus v) s = onTrs s (complete .nothing s) := by
  rw [exec, execWrStatus, onStatusWrite_eq_self, setTrs_self]

/-- A write of DATA has no register update and no hook (R105). -/
theorem exec_wrData (v : Word) (s : State) :
    exec (.wrData v) s = onTrs s (complete .nothing s) := by
  rw [exec, execWrData]

/-- A write of an offset that is no register's updates nothing (R106). -/
theorem exec_wrInvalid (o v : Word) (s : State) :
    exec (.wrInvalid o v) s = onTrs s (complete .nothing s) := by
  rw [exec, execWrInvalid]

/-- On a live sensor a dropped write completes: only the result changes, and `irq` does not. -/
theorem dropped_live {s : State} (hlive : s.trsLive = true) :
    ∃ t, onTrs s (complete .nothing s) = .next t ∧ t = { s with result := .nothing } ∧
      t.irq = s.irq :=
  ⟨s.setResult .nothing, by rw [onTrs_live hlive, complete_eq_next], rfl, setResult_irq _ s⟩

/-- Settles O21: offset 4 selects the write of STATUS, which is a dropped write. -/
theorem wrStatusChangesNothing : Obligations.WrStatusChangesNothing := by
  intro s v b hlive
  refine ⟨decode_wr 0x04#32 v b, ?_⟩
  rw [exec_wrStatus]
  exact dropped_live hlive

/-- Settles O22: offset 8 selects the write of DATA, which is a dropped write. -/
theorem wrDataIsDropped : Obligations.WrDataIsDropped := by
  intro s v b hlive
  refine ⟨decode_wr 0x08#32 v b, ?_⟩
  rw [exec_wrData]
  exact dropped_live hlive

/-- Settles O23: an offset other than the three selects the fallback form, which is a dropped write. -/
theorem wrInvalidIsDropped : Obligations.WrInvalidIsDropped := by
  intro s o v b hlive h0 h4 h8
  refine ⟨?_, ?_⟩
  · rw [decode_wr, decodeWrite_invalid v h0 h4 h8]
  · rw [exec_wrInvalid]
    exact dropped_live hlive

end Sys2Proof.Proofs.RegisterWrite
end

section
/-! The statements about the system operations (`spec/43_system_ops.md`): `SAVE` answers the snapshot of the
sensor, which carries the invariants of the state it was taken from. -/
namespace Sys2Proof.Proofs.SystemOps

open Sys2Proof.Machine
open Sys2Proof.Proofs.RegisterRead (setResult_irq)

/-- On a live sensor `SAVE` completes with the snapshot of the sensor, and changes the result alone (R136). -/
theorem exec_save_live {s : State} (hlive : s.trsLive = true) :
    exec .save s = .next (s.setResult (.snapshot (capture s.trs))) := by
  rw [exec, execSave, onTrs_live hlive, complete_eq_next]

/-- The snapshot of a sensor is well-formed exactly when the sensor has the invariants (R28, R135). -/
theorem capture_wellFormed_iff (t : Trs) : (capture t).wellFormed = true ↔ t.Inv := by
  rw [wellFormed_iff_inv, fromSnapshot_capture]

/-- Settles O34: `SAVE` changes the result alone, to the snapshot of the sensor, and a sensor with the
invariants has a well-formed snapshot. -/
theorem saveYieldsTheStateUnchanged : Obligations.SaveYieldsTheStateUnchanged := by
  intro s b hlive
  have hdecode : decode 0x060000000000000000#72 b = .ok .save := decode_pack .save 0 0 b
  refine ⟨hdecode, _, exec_save_live hlive, rfl, setResult_irq _ s, ?_⟩
  intro hinv n hresult
  obtain rfl : capture s.trs = n := OpResult.snapshot.inj hresult
  exact (capture_wellFormed_iff s.trs).2 hinv

end Sys2Proof.Proofs.SystemOps
end

section
/-! The statements about the companion device (`spec/45_addressed_slave.md`): a transmit request answers by
whether the pointer selects a register. -/
namespace Sys2Proof.Proofs.AddressedSlave

open Sys2Proof.Machine

/-- The pointer selects a register exactly when it is below 2 (R155). -/
theorem pointerInRange_iff (a : Ars) : pointerInRange a = true ↔ a.pointer.toNat < 2 :=
  decide_eq_true_iff

/-- With the pointer in range `A.TX` answers the selected register and advances the pointer (R162). -/
theorem exec_aTx_inRange {s : State} (hlive : s.arsLive = true) (hin : s.ars.pointer.toNat < 2) :
    exec .aTx s = .next ((s.setArs (s.ars.setPointer (s.ars.pointer + 1))).setResult
      (.byte (selectedReg s.ars))) := by
  rw [exec, execATx, onArs_live hlive, if_pos ((pointerInRange_iff _).2 hin), complete_eq_next]

/-- With the pointer out of range `A.TX` answers the sentinel and keeps the device (R162). -/
theorem exec_aTx_outOfRange {s : State} (hlive : s.arsLive = true) (hout : 2 ≤ s.ars.pointer.toNat) :
    exec .aTx s = .next (s.setResult (.byte 0xFF#8)) := by
  have hrange : ¬ pointerInRange s.ars = true := fun h =>
    absurd ((pointerInRange_iff _).1 h) (Nat.not_lt.2 hout)
  rw [exec, execATx, onArs_live hlive, if_neg hrange, complete_eq_next, arsSentinel]

/-- Settles O44: the two branches of the request, by whether the pointer is below 2. -/
theorem transmitReturnsTheSelectedRegister : Obligations.TransmitReturnsTheSelectedRegister := by
  intro s b hlive
  have hdecode : decode 0x110000000000000000#72 b = .ok .aTx := decode_pack .aTx 0 0 b
  refine ⟨hdecode, ?_⟩
  by_cases hout : 2 ≤ s.ars.pointer.toNat
  · rw [if_pos hout, exec_aTx_outOfRange hlive hout]
    rfl
  · rw [if_neg hout, exec_aTx_inRange hlive (Nat.not_le.1 hout)]
    rfl

end Sys2Proof.Proofs.AddressedSlave
end

section
/-! The statement about the interrupt output (`spec/60_exceptions.md` R194): on a live sensor it is the AND of
CTRL.EN, CTRL.IEN and STATUS.IFG. -/
namespace Sys2Proof.Proofs.Exceptions

open Sys2Proof.Machine

/-- The function of the registers is 1 exactly when bits 0 and 1 of CTRL and bit 1 of STATUS are (R120). -/
theorem irqOf_iff (t : Trs) :
    irqOf t = true ↔
      t.ctrl.getLsbD 0 = true ∧ t.ctrl.getLsbD 1 = true ∧ t.status.getLsbD 1 = true := by
  have hen : enOf t.ctrl = t.ctrl.getLsbD 0 := rfl
  have hien : ienOf t.ctrl = t.ctrl.getLsbD 1 := rfl
  have hifg : ifgOf t.status = t.status.getLsbD 1 := rfl
  rw [irqOf, hen, hien, hifg, Bool.and_eq_true, Bool.and_eq_true, and_assoc]

/-- The output of a live sensor is the function of its registers (R29, R120). -/
theorem irq_live {s : State} (hlive : s.trsLive = true) : s.irq = irqOf s.trs := by
  rw [State.irq, hlive, Bool.true_and]

/-- Settles O32: the output of a live sensor is the function of its registers, which is the AND of the
three bits. -/
theorem irqIsTheAndOfThreeBits : Obligations.IrqIsTheAndOfThreeBits := by
  intro s hlive
  rw [irq_live hlive]
  exact irqOf_iff s.trs

end Sys2Proof.Proofs.Exceptions
end

section
/-! What every operation does when it completes, said once: the condition under which it has a step and does
not refuse, and the state it then leaves. `exec_eq_next` ties both to `exec`; the proofs after it cite it in
place of the arms of `exec`. -/
namespace Sys2Proof.Proofs.Completion

open Sys2Proof.Machine

/-- When an operation completes (R12): its device is instantiated (R140, R220), the timer runs for a `TICK`
(R123), the snapshot of a `RESTORE` is well-formed (R137). -/
def Completes (s : State) : Instr → Prop
  | .poweron | .aPoweron | .extset _ => True
  | .tick => s.trsLive = true ∧ s.trs.timerRunning = true
  | .restore n => s.trsLive = true ∧ n.wellFormed = true
  | .rdCtrl | .rdStatus | .rdData | .rdInvalid _ => s.trsLive = true
  | .wrCtrl _ | .wrStatus _ | .wrData _ | .wrInvalid _ _ => s.trsLive = true
  | .timerclk | .reset | .save => s.trsLive = true
  | .aEventStartReceive | .aEventOther _ | .aTx | .aRx _ | .aReset => s.arsLive = true

/-- The sensor after an operation that completes, by the source and the sensor before it. -/
def trsAfter (ext : Option ExtWord) (t : Trs) : Instr → Trs
  | .wrCtrl v => writeCtrl v t
  | .tick => onTimerTick ext t
  | .timerclk => timerClock ext t
  | .reset | .poweron => trsInitial
  | .restore n => fromSnapshot n
  | .rdCtrl | .rdStatus | .rdData | .rdInvalid _ => t
  | .wrStatus _ | .wrData _ | .wrInvalid _ _ | .save | .extset _ => t
  | .aEventStartReceive | .aEventOther _ | .aTx | .aRx _ | .aReset | .aPoweron => t

/-- The companion device after an operation that completes, by the source and the device before it. -/
def arsAfter (ext : Option ExtWord) (a : Ars) : Instr → Ars
  | .aEventStartReceive => endTransfer (refreshData ext a)
  | .aEventOther _ => endTransfer a
  | .aTx => if pointerInRange a then a.setPointer (a.pointer + 1) else a
  | .aRx b => receiveByte b a
  | .aReset => ⟨0x00#8, 0x00#8, .needAddress, a.pointer⟩
  | .aPoweron => arsInitial
  | .rdCtrl | .rdStatus | .rdData | .rdInvalid _ => a
  | .wrCtrl _ | .wrStatus _ | .wrData _ | .wrInvalid _ _ => a
  | .tick | .timerclk | .reset | .poweron | .save | .restore _ | .extset _ => a

/-- What an operation that completes returns, by the two devices before it. -/
def resultOf (t : Trs) (a : Ars) : Instr → OpResult
  | .rdCtrl => .rdata t.ctrl
  | .rdStatus => .rdata t.status
  | .rdData => .rdata t.data
  | .rdInvalid _ => .rdata oorReadValue
  | .save => .snapshot (capture t)
  | .aTx => .byte (if pointerInRange a then selectedReg a else arsSentinel)
  | .aEventStartReceive | .aEventOther _ | .aRx _ => .success
  | .wrCtrl _ | .wrStatus _ | .wrData _ | .wrInvalid _ _ => .nothing
  | .tick | .timerclk | .reset | .poweron | .restore _ | .extset _ => .nothing
  | .aReset | .aPoweron => .nothing

/-- The source after an operation (R139). -/
def extAfter (ext : Option ExtWord) : Instr → Option ExtWord
  | .extset v => some v
  | _ => ext

/-- Whether the sensor is instantiated after an operation (R220). -/
def trsLiveAfter (live : Bool) : Instr → Bool
  | .poweron => true
  | _ => live

/-- Whether the companion device is instantiated after an operation (R164). -/
def arsLiveAfter (live : Bool) : Instr → Bool
  | .aPoweron => true
  | _ => live

/-- The state an operation that completes leaves. -/
def after (i : Instr) (s : State) : State where
  trs := trsAfter s.ext s.trs i
  trsLive := trsLiveAfter s.trsLive i
  ars := arsAfter s.ext s.ars i
  arsLive := arsLiveAfter s.arsLive i
  ext := extAfter s.ext i
  result := resultOf s.trs s.ars i
  schedule := s.schedule

/-- An operation of the sensor that only has to find it live. -/
theorem onTrs_complete_eq_next {s u t : State} {r : OpResult} :
    onTrs s (complete r u) = .next t ↔ s.trsLive = true ∧ t = u.setResult r := by
  rw [onTrs_eq_next, complete_eq_next]

/-- An operation of the companion device that only has to find it live. -/
theorem onArs_complete_eq_next {s u t : State} {r : OpResult} :
    onArs s (complete r u) = .next t ↔ s.arsLive = true ∧ t = u.setResult r := by
  rw [onArs_eq_next, complete_eq_next]

/-- A `TICK` answers a next state exactly on a live sensor whose timer runs (R116, R123). -/
theorem exec_tick_eq_next {s t : State} :
    exec .tick s = .next t ↔ (s.trsLive = true ∧ s.trs.timerRunning = true) ∧ t = after .tick s := by
  rw [exec, execTick, onTrs_eq_next, and_assoc]
  cases hrun : s.trs.timerRunning
  case false => simp
  case true => simp only [if_true, complete_eq_next, true_and]; rfl

/-- A `RESTORE` answers a next state exactly on a live sensor and for a well-formed snapshot (R137). -/
theorem exec_restore_eq_next {n : Snapshot} {s t : State} :
    exec (.restore n) s = .next t ↔
      (s.trsLive = true ∧ n.wellFormed = true) ∧ t = after (.restore n) s := by
  rw [exec, execRestore, onTrs_eq_next, and_assoc]
  cases hwf : n.wellFormed
  case false => simp
  case true => simp only [if_true, complete_eq_next, true_and]; rfl

/-- A transmit request completes with either branch's record and byte (R162). -/
theorem exec_aTx_eq_next {s t : State} :
    exec .aTx s = .next t ↔ s.arsLive = true ∧ t = after .aTx s := by
  rw [exec, execATx, onArs_eq_next, after, arsAfter, resultOf]
  cases hin : pointerInRange s.ars <;> exact and_congr_right fun _ => complete_eq_next

/-- An operation answers a next state exactly if it completes, and then the state it leaves. -/
theorem exec_eq_next {i : Instr} {s t : State} :
    exec i s = .next t ↔ Completes s i ∧ t = after i s := by
  cases i with
  | tick => exact exec_tick_eq_next
  | restore n => exact exec_restore_eq_next
  | aTx => exact exec_aTx_eq_next
  | rdCtrl | rdStatus | rdData | rdInvalid => exact onTrs_complete_eq_next
  | wrCtrl | wrStatus | wrData | wrInvalid => exact onTrs_complete_eq_next
  | timerclk | reset | save => exact onTrs_complete_eq_next
  | aEventStartReceive | aEventOther | aRx | aReset => exact onArs_complete_eq_next
  | poweron | aPoweron | extset => exact by simp only [Completes, true_and]; exact complete_eq_next

/-- An operation that completes answers the state it leaves. -/
theorem exec_of_completes {i : Instr} {s : State} (h : Completes s i) : exec i s = .next (after i s) :=
  exec_eq_next.2 ⟨h, rfl⟩

/-- Which operations can write the sensor's record: every other one leaves it, and its liveness, as it is
(R25, R233). -/
theorem keepsSensor_or_writes (i : Instr) :
    (∀ s, (after i s).trs = s.trs ∧ (after i s).trsLive = s.trsLive) ∨ (∃ v, i = .wrCtrl v) ∨ i = .tick ∨
      i = .timerclk ∨ i = .reset ∨ i = .poweron ∨ ∃ n, i = .restore n := by
  cases i with
  | wrCtrl v => exact .inr (.inl ⟨v, rfl⟩)
  | tick => exact .inr (.inr (.inl rfl))
  | timerclk => exact .inr (.inr (.inr (.inl rfl)))
  | reset => exact .inr (.inr (.inr (.inr (.inl rfl))))
  | poweron => exact .inr (.inr (.inr (.inr (.inr (.inl rfl)))))
  | restore n => exact .inr (.inr (.inr (.inr (.inr (.inr ⟨n, rfl⟩)))))
  | rdCtrl | rdStatus | rdData | rdInvalid | wrStatus | wrData | wrInvalid | save | extset =>
    exact .inl fun _ => ⟨rfl, rfl⟩
  | aEventStartReceive | aEventOther | aTx | aRx | aReset | aPoweron => exact .inl fun _ => ⟨rfl, rfl⟩

/-- Whether an operation completes depends on the sensor and the two livenesses alone. -/
theorem completes_congr {i : Instr} {s u : State} (htrs : u.trs = s.trs) (htl : u.trsLive = s.trsLive)
    (hal : u.arsLive = s.arsLive) : Completes u i ↔ Completes s i := by
  cases i <;> simp only [Completes, htrs, htl, hal]

/-- The interrupt output depends on the sensor and its liveness alone (R29). -/
theorem irq_congr {s u : State} (htrs : u.trs = s.trs) (htl : u.trsLive = s.trsLive) : u.irq = s.irq := by
  rw [State.irq, State.irq, htrs, htl]

/-- The function of the registers, bit by bit (R120). -/
theorem irqOf_eq (t : Trs) :
    irqOf t = (t.ctrl.getLsbD 0 && t.ctrl.getLsbD 1 && t.status.getLsbD 1) := rfl

end Sys2Proof.Proofs.Completion
end

section
/-! The statements about the operation word (`spec/30_encoding.md`): a word that decodes is a packed word whose
kind is one of the fourteen, so each statement is a case split on the kind. -/
namespace Sys2Proof.Proofs.OperationWord

open Sys2Proof.Machine
open Sys2Proof.Laws
open Sys2Proof.Laws.RowOfEncoding (select_pack beq_pack_kind offset_patterns)

/-! ### The kinds -/

/-- The codes that R72 leaves out name no kind. -/
theorem kindOfCode_reserved {c : Byte}
    (h : 0x08 < c.toNat ∧ c.toNat < 0x10 ∨ 0x14 < c.toNat) : kindOfCode c = none := by
  cases hk : kindOfCode c with
  | none => rfl
  | some k =>
    obtain rfl := kindCode_of_kindOfCode hk
    cases k <;> simp [kindCode] at h

/-- A word of known kind, as the pack of its fields. -/
theorem pack_of_kind {w : OpWord} {k : OpKind} (h : kindOfCode (kindOf w) = some k) :
    w = pack (kindCode k) (offsetOf w) (wdataOf w) := by
  rw [kindCode_of_kindOfCode h, pack_fields]

/-- A word of reserved kind does not decode. -/
theorem decode_reserved {w : OpWord} (b : Option Snapshot) (h : kindOfCode (kindOf w) = none) :
    decode w b = .error (.reservedKind (kindOf w)) := by
  simp [decode, h]

/-- A word that decodes is a packed word of one of the kinds. -/
theorem pack_of_decode {w : OpWord} {b : Option Snapshot} {i : Instr} (h : decode w b = .ok i) :
    ∃ k o d, w = pack (kindCode k) o d := by
  cases hk : kindOfCode (kindOf w) with
  | none => rw [decode_reserved b hk] at h; cases h
  | some k => exact ⟨k, _, _, pack_of_kind hk⟩

/-! ### The forms an offset or an event code selects -/

/-- The read form of an offset (R73, R90). -/
theorem decodeRead_eq (o : Word) :
    decodeRead o = if o = 0x00#32 then .rdCtrl else if o = 0x04#32 then .rdStatus
      else if o = 0x08#32 then .rdData else .rdInvalid o := by
  rcases decodeReg_cases o with ⟨rfl, -⟩ | ⟨rfl, -⟩ | ⟨rfl, -⟩ | ⟨h0, h4, h8, h⟩
  case inl => rfl
  case inr.inl => rfl
  case inr.inr.inl => rfl
  case inr.inr.inr => rw [decodeRead, h, if_neg h0, if_neg h4, if_neg h8]

/-- The write form of an offset (R73, R100). -/
theorem decodeWrite_eq (o v : Word) :
    decodeWrite o v = if o = 0x00#32 then .wrCtrl v else if o = 0x04#32 then .wrStatus v
      else if o = 0x08#32 then .wrData v else .wrInvalid o v := by
  rcases decodeReg_cases o with ⟨rfl, -⟩ | ⟨rfl, -⟩ | ⟨rfl, -⟩ | ⟨h0, h4, h8, h⟩
  case inl => rfl
  case inr.inl => rfl
  case inr.inr.inl => rfl
  case inr.inr.inr => rw [decodeWrite, h, if_neg h0, if_neg h4, if_neg h8]

/-- An offset that is no register's is read by the fallback form (R76). -/
theorem decodeRead_invalid {o : Word} (h : decodeReg o = .invalid) : decodeRead o = .rdInvalid o := by
  rw [decodeRead, h]

/-- An offset that is no register's is written by the fallback form (R76). -/
theorem decodeWrite_invalid {o : Word} (v : Word) (h : decodeReg o = .invalid) :
    decodeWrite o v = .wrInvalid o v := by
  rw [decodeWrite, h]

/-- An event code other than 0 is read as the fallback form (R82). -/
theorem decodeEvent_other {c : Word} (h : c ≠ 0#32) : decodeEvent c = .aEventOther c := if_neg h

/-- The read form of an offset is well-formed and its word carries that offset. -/
theorem decodeRead_spec (o : Word) :
    (decodeRead o).wellFormed = true ∧ encodeWord (decodeRead o) = pack (kindCode .rd) o 0 := by
  rcases decodeReg_cases o with ⟨rfl, -⟩ | ⟨rfl, -⟩ | ⟨rfl, -⟩ | ⟨-, -, -, h⟩
  case inl => exact ⟨rfl, rfl⟩
  case inr.inl => exact ⟨rfl, rfl⟩
  case inr.inr.inl => exact ⟨rfl, rfl⟩
  case inr.inr.inr => simp [decodeRead_invalid h, Instr.wellFormed, encodeWord, h]

/-- The write form of an offset is well-formed and its word carries that offset and the value. -/
theorem decodeWrite_spec (o v : Word) :
    (decodeWrite o v).wellFormed = true ∧ encodeWord (decodeWrite o v) = pack (kindCode .wr) o v := by
  rcases decodeReg_cases o with ⟨rfl, -⟩ | ⟨rfl, -⟩ | ⟨rfl, -⟩ | ⟨-, -, -, h⟩
  case inl => exact ⟨rfl, rfl⟩
  case inr.inl => exact ⟨rfl, rfl⟩
  case inr.inr.inl => exact ⟨rfl, rfl⟩
  case inr.inr.inr => simp [decodeWrite_invalid v h, Instr.wellFormed, encodeWord, h]

/-- The event form of a code is well-formed and its word carries that code. -/
theorem decodeEvent_spec (c : Word) :
    (decodeEvent c).wellFormed = true ∧ encodeWord (decodeEvent c) = pack (kindCode .aEvent) c 0 := by
  by_cases h : c = 0#32
  case pos => subst h; exact ⟨rfl, rfl⟩
  case neg => simp [decodeEvent_other h, Instr.wellFormed, encodeWord, eventStartReceive, h]

/-! ### Encoding, then decoding -/

/-- The low byte of a byte widened to a word is that byte. -/
theorem extractLsb'_setWidth_byte (b : Byte) : (b.setWidth 32).extractLsb' 0 8 = b := by
  rw [BitVec.extractLsb'_setWidth_of_le (by decide), BitVec.extractLsb'_eq_self]

/-- Settles O1: the word of an instruction carries its kind, and the decoder reads the operands back from the
offset and the value; the fallback forms are the ones whose operand is checked. -/
theorem decodeOfEncodeIsTheInstruction : Obligations.DecodeOfEncodeIsTheInstruction := by
  intro i hwf
  cases i with
  | rdInvalid o =>
    have hreg : decodeReg o = .invalid := by simpa [Instr.wellFormed] using hwf
    rw [encodeWord, decode_pack, decodeRead_invalid hreg]
  | wrInvalid o v =>
    have hreg : decodeReg o = .invalid := by simpa [Instr.wellFormed] using hwf
    rw [encodeWord, decode_pack, decodeWrite_invalid v hreg]
  | aEventOther c =>
    have hcode : c ≠ 0#32 := by simpa [Instr.wellFormed, eventStartReceive] using hwf
    rw [encodeWord, decode_pack, decodeEvent_other hcode]
  | aRx b => rw [encodeWord, decode_pack, extractLsb'_setWidth_byte]
  | rdCtrl | rdStatus | rdData => exact decode_pack .rd _ _ _
  | wrCtrl | wrStatus | wrData => exact decode_pack .wr _ _ _
  | tick => exact decode_pack .tick _ _ _
  | timerclk => exact decode_pack .timerclk _ _ _
  | reset => exact decode_pack .reset _ _ _
  | poweron => exact decode_pack .poweron _ _ _
  | save => exact decode_pack .save _ _ _
  | restore n => exact decode_pack .restore _ _ (some n)
  | extset => exact decode_pack .extset _ _ _
  | aEventStartReceive => exact decode_pack .aEvent _ _ _
  | aTx => exact decode_pack .aTx _ _ _
  | aReset => exact decode_pack .aReset _ _ _
  | aPoweron => exact decode_pack .aPoweron _ _ _

/-! ### Decoding, then encoding -/

/-- The bits of a word that the word of its instruction keeps, by kind (R71, R72, R82). -/
def usedMask : OpKind → OpWord
  | .rd | .aEvent => pack 0xFF#8 0xFFFFFFFF#32 0x00000000#32
  | .wr => pack 0xFF#8 0xFFFFFFFF#32 0xFFFFFFFF#32
  | .extset => pack 0xFF#8 0x00000000#32 0xFFFFFFFF#32
  | .aRx => pack 0xFF#8 0x00000000#32 0x000000FF#32
  | .tick | .timerclk | .reset | .poweron | .save | .restore => pack 0xFF#8 0x00000000#32 0x00000000#32
  | .aTx | .aReset | .aPoweron => pack 0xFF#8 0x00000000#32 0x00000000#32

/-- The mask by kind is the one the statement writes by kind code. -/
theorem usedMask_eq (k : OpKind) :
    usedMask k =
      (if kindCode k = 0x00#8 ∨ kindCode k = 0x10#8 then 0xFFFFFFFFFF00000000#72
       else if kindCode k = 0x01#8 then 0xFFFFFFFFFFFFFFFFFF#72
       else if kindCode k = 0x08#8 then 0xFF00000000FFFFFFFF#72
       else if kindCode k = 0x12#8 then 0xFF00000000000000FF#72
       else 0xFF0000000000000000#72) := by
  cases k <;> rfl

/-- A byte keeps all its bits under the mask of a byte. -/
theorem byte_and_ones (k : Byte) : k &&& 0xFF#8 = k := BitVec.and_allOnes

/-- A word keeps all its bits under the mask of a word. -/
theorem word_and_ones (o : Word) : o &&& 0xFFFFFFFF#32 = o := BitVec.and_allOnes

/-- The low byte of a word, widened, is the word masked with 0xFF. -/
theorem setWidth_lowByte (d : Word) : (d.extractLsb' 0 8).setWidth 32 = d &&& 0x000000FF#32 := by
  apply BitVec.eq_of_toNat_eq
  have h := Nat.and_two_pow_sub_one_eq_mod d.toNat 8
  simp only [BitVec.toNat_and, BitVec.toNat_setWidth, BitVec.extractLsb'_toNat, Nat.shiftRight_zero]
  norm_num at h ⊢
  omega

/-- The word of what a packed word decodes to is that word under the mask of its kind. -/
theorem encodeWord_of_decode_pack {k : OpKind} {o d : Word} {b : Option Snapshot} {i : Instr}
    (h : decode (pack (kindCode k) o d) b = .ok i) :
    encodeWord i = pack (kindCode k) o d &&& usedMask k := by
  rw [decode_pack] at h
  cases k with
  | restore => cases b <;> cases h; simp [encodeWord, usedMask, pack_and, byte_and_ones]
  | rd => cases h; simp [decodeRead_spec, usedMask, pack_and, byte_and_ones, word_and_ones]
  | wr => cases h; simp [decodeWrite_spec, usedMask, pack_and, byte_and_ones, word_and_ones]
  | aEvent => cases h; simp [decodeEvent_spec, usedMask, pack_and, byte_and_ones, word_and_ones]
  | aRx => cases h; simp [encodeWord, usedMask, pack_and, byte_and_ones, setWidth_lowByte]
  | extset => cases h; simp [encodeWord, usedMask, pack_and, byte_and_ones, word_and_ones]
  | tick | timerclk | reset | poweron | save | aTx | aReset | aPoweron =>
    cases h; simp [encodeWord, usedMask, pack_and, byte_and_ones]

/-- Settles O2: a word that decodes is a packed word, and the mask of its kind is the statement's. -/
theorem encodeOfDecodeKeepsTheUsedFields : Obligations.EncodeOfDecodeKeepsTheUsedFields := by
  intro w b i h
  obtain ⟨k, o, d, rfl⟩ := pack_of_decode h
  rw [kindOf_pack, ← usedMask_eq k]
  exact encodeWord_of_decode_pack h

/-- Settles O4: the form an offset or an event code selects is well-formed, and the snapshot of a `RESTORE` is
the one beside the word. -/
theorem decodedInstructionsAreWellFormed : Obligations.DecodedInstructionsAreWellFormed := by
  intro w b i h hbeside
  obtain ⟨k, o, d, rfl⟩ := pack_of_decode h
  rw [decode_pack] at h
  cases k with
  | restore =>
    cases b with
    | none => cases h
    | some n => cases h; exact hbeside n rfl
  | rd => cases h; exact (decodeRead_spec o).1
  | wr => cases h; exact (decodeWrite_spec o d).1
  | aEvent => cases h; exact (decodeEvent_spec o).1
  | tick | timerclk | reset | poweron | save | extset | aTx | aRx | aReset | aPoweron => cases h; rfl

/-! ### The opcode table -/

/-- The pattern of every row is of a kind that is not reserved, and its mask looks at the whole kind. -/
theorem opcodeTable_kinds :
    ∀ r ∈ opcodeTable, kindOf r.mask = 0xFF#8 ∧ (kindOfCode (kindOf r.pattern)).isSome = true := by
  decide

/-- The kind of a bitwise AND is the AND of the kinds. -/
theorem kindOf_and (w m : OpWord) : kindOf (w &&& m) = kindOf w &&& kindOf m :=
  BitVec.extractLsb'_and

/-- A word that selects a row of the table has the row's kind. -/
theorem kindOfCode_of_rowSelects {w : OpWord} {r : OpRow} (hr : r ∈ opcodeTable)
    (h : rowSelects w r = true) : (kindOfCode (kindOf w)).isSome = true := by
  obtain ⟨hmask, hkind⟩ := opcodeTable_kinds r hr
  have hpattern : w &&& r.mask = r.pattern := eq_of_beq h
  rwa [← hpattern, kindOf_and, hmask, byte_and_ones] at hkind

/-- A word of reserved kind selects no row (R77 item 4). -/
theorem selectRow_reserved {w : OpWord} (h : kindOfCode (kindOf w) = none) : selectRow w = none := by
  have hnone (p : Nat) : opcodeTable.find? (fun r => r.priority == p && rowSelects w r) = none := by
    refine List.find?_eq_none.2 fun r hr hsel => ?_
    have hsome := kindOfCode_of_rowSelects hr (Bool.and_eq_true_iff.1 hsel).2
    rw [h] at hsome
    cases hsome
  rw [selectRow, hnone, hnone]

/-- A kind that no row of the table looks past selects its row whatever the other fields hold. -/
theorem selectRow_of_kind {k : Byte} (hrd : k ≠ 0x00#8) (hwr : k ≠ 0x01#8) (hev : k ≠ 0x10#8)
    (o d : Word) : selectRow (pack k o d) = selectRow (pack k 0#32 0#32) := by
  obtain ⟨q0, q1, q2, q3, q4, q5, q6⟩ := offset_patterns
  rw [select_pack]
  simp only [selectRow, opcodeTable_eq, List.find?, rowSelects, and_kindMask, and_kindOffsetMask,
    kindOf_pack, offsetOf_pack, q0, q1, q2, q3, q4, q5, q6, beq_pack_kind hrd, beq_pack_kind hwr,
    beq_pack_kind hev]

/-- A read word selects the row of the form its offset selects. -/
theorem selectRow_read (o d : Word) :
    (selectRow (pack (kindCode .rd) o d)).map OpRow.mnemonic = some (decodeRead o).mnemonic := by
  rw [select_pack]
  rcases decodeReg_cases o with ⟨rfl, -⟩ | ⟨rfl, -⟩ | ⟨rfl, -⟩ | ⟨-, -, -, h⟩
  case inl => exact RowOfEncoding.rdCtrl rfl
  case inr.inl => exact RowOfEncoding.rdStatus rfl
  case inr.inr.inl => exact RowOfEncoding.rdData rfl
  case inr.inr.inr => rw [decodeRead_invalid h]; exact (RowOfEncoding.select_invalid h).1

/-- A write word selects the row of the form its offset selects. -/
theorem selectRow_write (o d : Word) :
    (selectRow (pack (kindCode .wr) o d)).map OpRow.mnemonic = some (decodeWrite o d).mnemonic := by
  rcases decodeReg_cases o with ⟨rfl, -⟩ | ⟨rfl, -⟩ | ⟨rfl, -⟩ | ⟨-, -, -, h⟩
  case inl => exact RowOfEncoding.wrCtrl d rfl
  case inr.inl => exact RowOfEncoding.wrStatus d rfl
  case inr.inr.inl => exact RowOfEncoding.wrData d rfl
  case inr.inr.inr =>
    rw [select_pack, decodeWrite_invalid d h]
    exact (RowOfEncoding.select_invalid h).2

/-- An event word selects the row of the form its code selects. -/
theorem selectRow_event (c d : Word) :
    (selectRow (pack (kindCode .aEvent) c d)).map OpRow.mnemonic = some (decodeEvent c).mnemonic := by
  rw [select_pack]
  by_cases h : c = 0#32
  case pos => subst h; exact RowOfEncoding.aEventStartReceive rfl
  case neg => rw [decodeEvent_other h]; exact RowOfEncoding.select_event h

/-- A packed word that decodes selects the row of its instruction. -/
theorem selectRow_of_decode_pack {k : OpKind} {o d : Word} {b : Option Snapshot} {i : Instr}
    (h : decode (pack (kindCode k) o d) b = .ok i) :
    (selectRow (pack (kindCode k) o d)).map OpRow.mnemonic = some i.mnemonic := by
  rw [decode_pack] at h
  cases k with
  | rd => cases h; exact selectRow_read o d
  | wr => cases h; exact selectRow_write o d
  | aEvent => cases h; exact selectRow_event o d
  | restore =>
    cases b <;> cases h
    rw [selectRow_of_kind (by decide) (by decide) (by decide), Instr.mnemonic]
    decide
  | tick | timerclk | reset | poweron | save | extset | aTx | aRx | aReset | aPoweron =>
    cases h
    rw [selectRow_of_kind (by decide) (by decide) (by decide), Instr.mnemonic]
    decide

/-- A packed word that does not decode is a `RESTORE` with nothing beside it. -/
theorem restore_of_decode_pack_error {k : OpKind} {o d : Word} {b : Option Snapshot} {e : DecodeError}
    (h : decode (pack (kindCode k) o d) b = .error e) : k = .restore ∧ b = none ∧ e = .missingSnapshot := by
  rw [decode_pack] at h
  cases k with
  | restore => cases b <;> cases h; exact ⟨rfl, rfl, rfl⟩
  | rd | wr | tick | timerclk | reset | poweron | save | extset => cases h
  | aEvent | aTx | aRx | aReset | aPoweron => cases h

/-- Settles O3: the kind is either reserved, and then no row has it, or one of the fourteen, and then the
rows of that kind split as the decoder does. -/
theorem decoderFollowsTheOpcodeTable : Obligations.DecoderFollowsTheOpcodeTable := by
  refine ⟨opcodeTable_eq, fun w b => ?_⟩
  cases hk : kindOfCode (kindOf w) with
  | none =>
    rw [decode_reserved b hk]
    exact ⟨rfl, selectRow_reserved hk⟩
  | some k =>
    rw [pack_of_kind hk]
    cases hdec : decode (pack (kindCode k) (offsetOf w) (wdataOf w)) b with
    | ok i => exact selectRow_of_decode_pack hdec
    | error e =>
      obtain ⟨rfl, rfl, rfl⟩ := restore_of_decode_pack_error hdec
      refine ⟨rfl, ?_⟩
      rw [selectRow_of_kind (by decide) (by decide) (by decide)]
      decide

/-- Settles O5: each word is the pack of its fields. -/
theorem sampleWordsDecode : Obligations.SampleWordsDecode :=
  ⟨decode_pack .rd 0x08#32 0#32 none, decode_pack .rd 0x0C#32 0#32 none, decode_pack .wr 0x00#32 3#32 none,
    decode_pack .wr 2#32 1#32 none, decode_pack .tick 0x12345678#32 0x9ABCDEF0#32 none,
    decode_pack .extset 0#32 0xA5#32 none, decode_pack .aEvent 2#32 0#32 none,
    decode_pack .aRx 0#32 0x101#32 none⟩

end Sys2Proof.Proofs.OperationWord
end

section
/-! The statements about the step (`spec/20_memory.md` R53 to R65) and the invariants (`spec/10_state.md` R28):
a step leaves the sensor alone or executes one operation, so an invariant that every operation keeps holds in
every reachable state. -/
namespace Sys2Proof.Proofs.Steps

open Sys2Proof.Machine
open Sys2Proof.Proofs.Completion
open Sys2Proof.Proofs.OperationWord

/-! ### One step -/

/-- A word that decodes to no operation answers no next state. -/
theorem rejectWord_ne_next (e : DecodeError) (t : State) : rejectWord e ≠ .next t := by
  cases e <;> simp [rejectWord]

/-- A word that is performed is one that decodes, and its instruction is executed. -/
theorem performWord_eq_next {w : OpWord} {b : Option Snapshot} {s t : State}
    (h : performWord w b s = .next t) : ∃ i, exec i s = .next t := by
  rw [performWord] at h
  cases hdec : decode w b with
  | ok i => rw [hdec] at h; exact ⟨i, h⟩
  | error e => rw [hdec] at h; exact absurd h (rejectWord_ne_next e t)

/-- An access that is performed is one the boundary admits, as an operation word. -/
theorem performAccess_eq_next {a : BusAccess} {s t : State} (h : performAccess a s = .next t) :
    ∃ i, exec i s = .next t := by
  rw [performAccess] at h
  cases hadm : admitAccess a with
  | ok w => rw [hadm] at h; exact performWord_eq_next h
  | error r => rw [hadm] at h; cases h

/-- One entry of the total order executes an operation or leaves the sensor's record as it is. -/
theorem perform_eq_next {r : Request} {s t : State} (h : perform r s = .next t) :
    t.trs = s.trs ∨ ∃ i, exec i s = .next t := by
  cases r with
  | op w b => exact .inr (performWord_eq_next h)
  | access a => exact .inr (performAccess_eq_next h)
  | arsSave => rw [(onArs_complete_eq_next.1 h).2]; exact .inl rfl
  | arsRestore n => rw [(onArs_complete_eq_next.1 h).2]; exact .inl rfl
  | trsDestroy => rw [(onTrs_complete_eq_next.1 h).2]; exact .inl rfl
  | arsDestroy => rw [(onArs_complete_eq_next.1 h).2]; exact .inl rfl

/-- A step executes an operation, on a state with the same sensor, or leaves the sensor's record as it is. -/
theorem step_eq_next {s t : State} (h : step s = .next t) :
    t.trs = s.trs ∨ ∃ i u, u.trs = s.trs ∧ exec i u = .next t := by
  cases hs : s.schedule with
  | cons r rest =>
    rw [step_cons hs] at h
    rcases perform_eq_next h with htrs | ⟨i, hexec⟩
    · exact .inl htrs
    · exact .inr ⟨i, s.setSchedule rest, rfl, hexec⟩
  | nil =>
    by_cases hrun : s.trsLive = true ∧ s.trs.timerRunning = true
    · rw [step_nil_running hs hrun.1 hrun.2] at h
      exact .inr ⟨.timerclk, s, rfl, h⟩
    · have hq : s.trsLive = false ∨ s.trs.timerRunning = false := by simpa [or_iff_not_imp_left] using hrun
      rw [step_nil_quiescent hs hq] at h
      cases h

/-- Settles O8: the first entry of the schedule is performed, and a word that decodes is executed. -/
theorem stepExecutesTheDecodedInstruction : Obligations.StepExecutesTheDecodedInstruction := by
  intro s w b rest i hs hdec
  rw [step_cons hs, perform, performWord_ok _ hdec]
  rfl

/-- Settles O7: the kind is none of the fourteen, so the word does not decode. -/
theorem reservedKindHasNoStep : Obligations.ReservedKindHasNoStep := by
  intro s w b rest hs hkind
  rw [step_cons hs, perform, performWord, decode_reserved b (kindOfCode_reserved hkind)]
  rfl

/-- Settles O9: with nothing scheduled a step is the timer's own, if it runs. -/
theorem stepAloneCountsTheTimer : Obligations.StepAloneCountsTheTimer :=
  fun _ hs => ⟨step_nil_running hs, step_nil_quiescent hs⟩

/-! ### The boundary -/

/-- The boundary's checks, in their order (R53, R54, R65). -/
theorem admitAccess_eq (a : BusAccess) :
    admitAccess a =
      if a.kind = .fetch then .error .fetchFromWindow
      else if a.width ≠ 4 then .error .accessWidth
      else if a.offset.toNat % 4 ≠ 0 then .error .misalignedAccess
      else if a.kind = .write then .ok (pack (kindCode .wr) a.offset a.value)
      else .ok (pack (kindCode .rd) a.offset 0#32) := rfl

/-- A refused access stops the step with the boundary's reason. -/
theorem performAccess_error {a : BusAccess} {r : Refusal} (s : State) (h : admitAccess a = .error r) :
    performAccess a s = .refused r := by
  rw [performAccess, h]

/-- An admitted access whose word decodes is executed. -/
theorem performAccess_ok {a : BusAccess} {w : OpWord} {i : Instr} (s : State)
    (h : admitAccess a = .ok w) (hdec : decode w none = .ok i) : performAccess a s = exec i s := by
  rw [performAccess, h]
  exact performWord_ok s hdec

/-- Settles O10: each clause selects one branch of the boundary, and an admitted word decodes to the form its
offset selects. -/
theorem boundaryForwardsAlignedWordsOnly : Obligations.BoundaryForwardsAlignedWordsOnly := by
  intro s a rest hs
  rw [step_cons hs, perform]
  refine ⟨fun hk => ?_, fun hk hw => ?_, fun hk hw ho => ?_, fun hk hw ho => ?_, fun hk hw ho => ?_⟩
  · exact performAccess_error _ (by rw [admitAccess_eq, if_pos hk])
  · exact performAccess_error _ (by rw [admitAccess_eq, if_neg hk, if_pos hw])
  · exact performAccess_error _ (by
      rw [admitAccess_eq, if_neg hk, if_neg (not_not.2 hw), if_pos ho])
  · have hadm : admitAccess a = .ok (pack (kindCode .rd) a.offset 0#32) := by
      simp [admitAccess_eq, hk, hw, ho]
    rw [performAccess_ok _ hadm (decode_pack .rd _ _ _), decodeRead_eq]
    rfl
  · have hadm : admitAccess a = .ok (pack (kindCode .wr) a.offset a.value) := by
      simp [admitAccess_eq, hk, hw, ho]
    rw [performAccess_ok _ hadm (decode_pack .wr _ _ _), decodeWrite_eq]
    rfl

/-! ### The invariants -/

/-- The sensor after power-on and reset has the invariants (R28, R32). -/
theorem trsInitial_inv : trsInitial.Inv :=
  ⟨by decide, .inl rfl, by decide, fun _ => rfl, by decide, one_le_tickPeriod, le_rfl⟩

/-- A write of CTRL keeps the invariants: two bits are stored, and the hook sets the timer by EN (R101). -/
theorem writeCtrl_inv (v : Word) {t : Trs} (h : t.Inv) : (writeCtrl v t).Inv := by
  obtain ⟨-, hstatus, hdata, hzero, -, hlow, hhigh⟩ := h
  rw [writeCtrl_spec]
  refine ⟨ctrlStored_le v, hstatus, hdata, hzero, Iff.rfl, ?_⟩
  dsimp only
  split
  · exact ⟨one_le_tickPeriod, le_rfl⟩
  · exact ⟨hlow, hhigh⟩

/-- IFG set in a STATUS of the invariants is IFG alone (R24). -/
theorem status_or_ifg {v : Word} (h : v = 0x00000000#32 ∨ v = 0x00000002#32) :
    v ||| 0x00000002#32 = 0x00000002#32 := by
  rcases h with rfl | rfl <;> rfl

/-- A tick keeps the invariants: the sample has eight bits, and STATUS is no longer 0 (R116). -/
theorem onTimerTick_inv (ext : Option ExtWord) {t : Trs} (h : t.Inv) : (onTimerTick ext t).Inv := by
  obtain ⟨hctrl, hstatus, -, -, hrun, hcount⟩ := h
  rw [onTimerTick_spec, status_or_ifg hstatus]
  exact ⟨hctrl, .inr rfl, sampleWord_le ext, fun h : 2#32 = 0#32 => absurd h (by decide),
    hrun, hcount⟩

/-- A timer clock keeps the invariants: a count of 1 is reloaded and not decremented (R118). -/
theorem timerClock_inv (ext : Option ExtWord) {t : Trs} (h : t.Inv) : (timerClock ext t).Inv := by
  rcases timerClock_cases ext t with ⟨-, heq⟩ | ⟨-, -, heq⟩ | ⟨-, hne, heq⟩
  · rwa [heq]
  · obtain ⟨hctrl, hstatus, hdata, hzero, hrun, -⟩ := onTimerTick_inv ext h
    rw [heq]
    exact ⟨hctrl, hstatus, hdata, hzero, hrun, one_le_tickPeriod, le_rfl⟩
  · obtain ⟨hctrl, hstatus, hdata, hzero, hrun, hlow, hhigh⟩ := h
    rw [heq]
    exact ⟨hctrl, hstatus, hdata, hzero, hrun, by dsimp only; omega, by dsimp only; omega⟩

/-- Every operation keeps the invariants. -/
theorem exec_inv {i : Instr} {s t : State} (hinv : s.trs.Inv) (h : exec i s = .next t) : t.trs.Inv := by
  obtain ⟨hcomp, rfl⟩ := exec_eq_next.1 h
  rcases keepsSensor_or_writes i with hkeep | ⟨v, rfl⟩ | rfl | rfl | rfl | rfl | ⟨n, rfl⟩
  · rwa [(hkeep s).1]
  · exact writeCtrl_inv v hinv
  · exact onTimerTick_inv s.ext hinv
  · exact timerClock_inv s.ext hinv
  · exact trsInitial_inv
  · exact trsInitial_inv
  · exact (wellFormed_iff_inv n).1 hcomp.2

/-- Settles O14: a step executes an operation, which keeps the invariants, or leaves the sensor. -/
theorem everyStepKeepsInv : Obligations.EveryStepKeepsInv := by
  intro s t hinv hstep
  rcases step_eq_next hstep with htrs | ⟨i, u, htrs, hexec⟩
  · rwa [State.Inv, htrs]
  · exact exec_inv (htrs ▸ hinv) hexec

/-- Settles O13: the state after reset holds the sensor's initial record. -/
theorem invHoldsAfterReset : Obligations.InvHoldsAfterReset := trsInitial_inv

/-- The invariants hold after any number of steps from a state with them. -/
theorem run_inv {n : Nat} {s t : State} (hinv : s.Inv)
    (h : Host.Core.run Sys2Proof.core n s = .next t) : t.Inv := by
  induction n generalizing s with
  | zero => cases h; exact hinv
  | succ n ih =>
    obtain ⟨u, hstep, hrun⟩ := run_succ_eq_next h
    exact ih (everyStepKeepsInv s u hinv hstep) hrun

/-- Settles O15: the state after reset has the invariants whatever is scheduled, and a run keeps them. -/
theorem invHoldsInEveryReachableState : Obligations.InvHoldsInEveryReachableState := by
  intro n ops t h
  have hreset : State.Inv { State.reset with schedule := ops } := invHoldsAfterReset
  obtain ⟨hctrl, hstatus, hdata, hzero, hrun, -⟩ := run_inv hreset h
  exact ⟨hrun, hctrl, hstatus, hdata, hzero⟩

end Sys2Proof.Proofs.Steps
end

section
/-! The statements about the byte view, the reads and the write of CTRL (`spec/20_memory.md` R55, R57,
`spec/40_register_read.md`, `spec/41_register_write.md`). -/
namespace Sys2Proof.Proofs.Registers

open Sys2Proof.Machine
open Sys2Proof.Proofs.Completion

/-! ### The byte view of the window -/

/-- Sensors whose word at a byte's offset agrees show the same byte there, in either byte order. -/
theorem windowByte_congr {t u : Trs} (e : Endian) {a : Word}
    (h : readWindow t (wordOffset a) = readWindow u (wordOffset a)) : windowByte e t a = windowByte e u a := by
  rw [windowByte, windowByte, h]

/-- A byte from offset 4 on is none of CTRL's. -/
theorem wordOffset_ne_ctrl {a : Word} (h : 4 ≤ a.toNat) : wordOffset a ≠ 0x00000000#32 := by
  intro heq
  have hzero : (wordOffset a).toNat = 0 := by rw [heq]; rfl
  rw [wordOffset_toNat] at hzero
  omega

/-- A byte below offset 4 or from offset 12 on is none of STATUS's and none of DATA's. -/
theorem wordOffset_ne_status_data {a : Word} (h : a.toNat < 4 ∨ 12 ≤ a.toNat) :
    wordOffset a ≠ 0x00000004#32 ∧ wordOffset a ≠ 0x00000008#32 := by
  have hne (n : Nat) (hn : 4 ≤ n ∧ n ≤ 8) (hlt : n < 2 ^ 32) : wordOffset a ≠ BitVec.ofNat 32 n := by
    intro heq
    have hval : (wordOffset a).toNat = n := by rw [heq, BitVec.toNat_ofNat, Nat.mod_eq_of_lt hlt]
    rw [wordOffset_toNat] at hval
    omega
  exact ⟨hne 4 (by decide) (by decide), hne 8 (by decide) (by decide)⟩

/-- In the little-endian view byte n of the word at an aligned offset is bits 8n+7 to 8n of it (R55). -/
theorem windowByte_little (t : Trs) {base n : Nat} (hbase : base % 4 = 0) (hn : n < 4) (hlt : base < 2 ^ 31) :
    windowByte .little t (BitVec.ofNat 32 (base + n)) =
      (readWindow t (BitVec.ofNat 32 base)).extractLsb' (8 * n) 8 := by
  have hval (m : Nat) (hm : m < 2 ^ 32) : (BitVec.ofNat 32 m).toNat = m := by
    rw [BitVec.toNat_ofNat, Nat.mod_eq_of_lt hm]
  have hword : wordOffset (BitVec.ofNat 32 (base + n)) = BitVec.ofNat 32 base := by
    apply BitVec.eq_of_toNat_eq
    rw [wordOffset_toNat, hval _ (by omega), hval _ (by omega)]
    omega
  have hlane : byteLane .little (BitVec.ofNat 32 (base + n)) = n := by
    rw [byteLane_spec, hval _ (by omega)]
    dsimp only
    omega
  rw [windowByte, hword, hlane]

/-- Settles O11: the three registers stand at the aligned offsets 0, 4 and 8. -/
theorem littleEndianByteView : Obligations.LittleEndianByteView := by
  intro t n hn
  have hctrl := windowByte_little t (base := 0) rfl hn (by decide)
  rw [Nat.zero_add] at hctrl
  exact ⟨hctrl, windowByte_little t (base := 4) rfl hn (by decide),
    windowByte_little t (base := 8) rfl hn (by decide)⟩

/-! ### Operations that change the result alone -/

/-- The reads, `SAVE` and the writes that store nothing change the result alone. -/
theorem after_eq_setResult {i : Instr} (s : State)
    (hi : i = .rdCtrl ∨ i = .rdStatus ∨ i = .rdData ∨ (∃ o, i = .rdInvalid o) ∨ (∃ v, i = .wrStatus v) ∨
      (∃ v, i = .wrData v) ∨ (∃ o v, i = .wrInvalid o v) ∨ i = .save) :
    after i s = s.setResult (resultOf s.trs s.ars i) := by
  rcases hi with rfl | rfl | rfl | ⟨o, rfl⟩ | ⟨v, rfl⟩ | ⟨v, rfl⟩ | ⟨o, v, rfl⟩ | rfl <;> rfl

/-- Settles O24: the state differs in the result alone, which is no part of what the frame names. -/
theorem frameOfReadsSaveAndDroppedWrites : Obligations.FrameOfReadsSaveAndDroppedWrites := by
  intro i s t hi h
  obtain ⟨-, rfl⟩ := exec_eq_next.1 h
  rw [after_eq_setResult s hi]
  exact ⟨rfl, rfl, rfl, rfl, rfl, rfl, rfl, fun _ _ => rfl⟩

/-- Settles O17: each form completes on a live sensor with its register. -/
theorem readFormsReturnTheirRegister : Obligations.ReadFormsReturnTheirRegister :=
  fun _ hlive => ⟨exec_of_completes hlive, exec_of_completes hlive, exec_of_completes hlive,
    fun _ _ _ _ => exec_of_completes hlive⟩

/-- Settles O18: a read changes the result alone, and the result is the same whatever the last one was. -/
theorem readsHaveNoSideEffect : Obligations.ReadsHaveNoSideEffect := by
  intro i s t hi h
  obtain ⟨hcomp, rfl⟩ := exec_eq_next.1 h
  have hframe (u : State) : after i u = u.setResult (resultOf u.trs u.ars i) :=
    after_eq_setResult u (by tauto)
  have hagain : exec i (after i s) = .next (after i s) := by
    rw [exec_eq_next, hframe (after i s), hframe s]
    exact ⟨(completes_congr rfl rfl rfl).2 hcomp, rfl⟩
  refine ⟨?_, ?_, hagain, ?_⟩
  · rw [hframe s]; rfl
  · rw [hframe s]; rfl
  · rw [hframe s]; exact fun _ _ => rfl

/-! ### The write of CTRL -/

/-- The write of CTRL and its hook, in the literals of R74 and R101. -/
theorem writeCtrl_eq (v : Word) (t : Trs) :
    writeCtrl v t = { t with
      ctrl := v &&& 0x00000003#32
      timerRunning := v.getLsbD 0
      timerCount :=
        if v.getLsbD 0 = true ∧ t.timerRunning = false then Config.tickPeriod else t.timerCount } := by
  simp [writeCtrl_spec, ctrlStored_eq, enOf, ctrlEnBit]

/-- The write of CTRL keeps STATUS and DATA (R101). -/
theorem writeCtrl_keeps (v : Word) (t : Trs) :
    (writeCtrl v t).status = t.status ∧ (writeCtrl v t).data = t.data := by
  rw [writeCtrl_eq]
  exact ⟨rfl, rfl⟩

/-- A second write of the same value finds CTRL and the timer as the first left them (R103). -/
theorem writeCtrl_writeCtrl (v : Word) (t : Trs) : writeCtrl v (writeCtrl v t) = writeCtrl v t := by
  rw [writeCtrl_eq v (writeCtrl v t), writeCtrl_eq v t]
  cases v.getLsbD 0 <;> simp

/-- The output after a write of CTRL (R101, R120). -/
theorem irqOf_writeCtrl (v : Word) (t : Trs) :
    irqOf (writeCtrl v t) = (v.getLsbD 0 && v.getLsbD 1 && t.status.getLsbD 1) := by
  simp [irqOf_eq, writeCtrl_eq]

/-- Settles O19: the word selects CTRL, and the write stores two bits and runs the hook. -/
theorem wrCtrlStoresTwoBitsAndRunsItsHook : Obligations.WrCtrlStoresTwoBitsAndRunsItsHook := by
  intro s v b hlive
  have hirq : (after (.wrCtrl v) s).irq = irqOf (writeCtrl v s.trs) := Exceptions.irq_live hlive
  refine ⟨decode_pack .wr 0x00#32 v b, _, exec_of_completes hlive, ?_, hirq.trans (irqOf_writeCtrl v s.trs)⟩
  rw [← writeCtrl_eq]
  rfl

/-- Settles O20: the write is idempotent on the sensor, and it reads and writes nothing else. -/
theorem writingCtrlTwiceIsWritingItOnce : Obligations.WritingCtrlTwiceIsWritingItOnce := by
  intro s t v h
  obtain ⟨hlive, rfl⟩ := exec_eq_next.1 h
  exact exec_eq_next.2 ⟨hlive, congrArg ((after (.wrCtrl v) s).setTrs ·) (writeCtrl_writeCtrl v s.trs).symm⟩

/-- Settles O25: STATUS and DATA are kept, and no byte from offset 4 on is CTRL's. -/
theorem frameOfWrCtrl : Obligations.FrameOfWrCtrl := by
  intro v s t h
  obtain ⟨-, rfl⟩ := exec_eq_next.1 h
  have htrs : (after (.wrCtrl v) s).trs = writeCtrl v s.trs := rfl
  obtain ⟨hstatus, hdata⟩ := writeCtrl_keeps v s.trs
  refine ⟨hstatus, hdata, rfl, rfl, rfl, rfl, rfl, fun e a ha => windowByte_congr e ?_⟩
  simp only [htrs, readWindow_spec, if_neg (wordOffset_ne_ctrl ha), hstatus, hdata]

end Sys2Proof.Proofs.Registers
end

section
/-! The statements about power-on, reset, save, restore and the external writer (`spec/43_system_ops.md`,
`spec/70_reset_and_hazards.md`). -/
namespace Sys2Proof.Proofs.Lifecycle

open Sys2Proof.Machine
open Sys2Proof.Proofs.Completion

/-- The initial sensor drives no interrupt (R32). -/
theorem irq_of_trsInitial {s : State} (h : s.trs = trsInitial) : s.irq = false := by
  rw [State.irq, h]
  exact Bool.and_false _

/-- Settles O12: all three states hold the initial sensor. -/
theorem initialValuesAfterPowerOnAndReset : Obligations.InitialValuesAfterPowerOnAndReset := by
  refine ⟨rfl, irq_of_trsInitial rfl, fun s => ⟨?_, fun hlive => ?_⟩⟩
  · exact ⟨_, exec_of_completes trivial, rfl, irq_of_trsInitial rfl, rfl⟩
  · exact ⟨_, exec_of_completes hlive, rfl, irq_of_trsInitial rfl, rfl⟩

/-- Settles O35: a restore of a well-formed snapshot completes with the sensor the snapshot holds. -/
theorem restoreWritesTheSnapshotVerbatim : Obligations.RestoreWritesTheSnapshotVerbatim := by
  intro s n hlive hwf
  have hirq : (after (.restore n) s).irq = irqOf (fromSnapshot n) := Exceptions.irq_live hlive
  exact ⟨decode_pack .restore 0 0 (some n), _, exec_of_completes ⟨hlive, hwf⟩, rfl, hirq.trans (irqOf_eq _)⟩

/-- On a live sensor a restore is refused exactly if the snapshot is not well-formed (R137). -/
theorem exec_restore_refused_iff {s : State} (n : Snapshot) (hlive : s.trsLive = true) :
    exec (.restore n) s = .refused .illFormedSnapshot ↔ ¬ n.wellFormed = true := by
  rw [exec, execRestore, onTrs_live hlive]
  cases hwf : n.wellFormed <;> simp [complete]

/-- A snapshot is well-formed exactly under the six conditions of R135. -/
theorem wellFormed_iff (n : Snapshot) :
    n.wellFormed = true ↔
      n.x0.toNat ≤ 0x3 ∧ (n.x1 = 0#32 ∨ n.x1 = 2#32) ∧ n.x2.toNat ≤ 0xFF ∧
        (n.x1 = 0#32 → n.x2 = 0#32) ∧ n.timerRunning = n.x0.getLsbD 0 ∧
        1 ≤ n.timerCount ∧ n.timerCount ≤ Config.tickPeriod := by
  rw [wellFormed_iff_inv, Trs.Inv, ← Bool.eq_iff_iff]
  rfl

/-- Settles O36: what is refused is what is not well-formed, which is the six conditions. -/
theorem restoreRefusesIllFormedSnapshots : Obligations.RestoreRefusesIllFormedSnapshots := by
  intro s n hlive
  rw [exec_restore_refused_iff n hlive, wellFormed_iff]

/-- Settles O37: the snapshot of a sensor with the invariants is well-formed, and it holds that sensor. -/
theorem saveThenRestoreGivesTheStateBack : Obligations.SaveThenRestoreGivesTheStateBack := by
  intro s t hinv hs ht
  have hwf : (capture s.trs).wellFormed = true := (SystemOps.capture_wellFormed_iff s.trs).2 hinv
  refine ⟨capture s.trs, _, _, exec_of_completes hs, rfl, hwf, exec_of_completes ⟨ht, hwf⟩, rfl, ?_⟩
  exact irq_congr rfl (ht.trans hs.symm)

/-- Settles O38: the external writer completes in every state, and changes the source and the result. -/
theorem extsetSetsTheSourceOnly : Obligations.ExtsetSetsTheSourceOnly :=
  fun _ v b => ⟨decode_pack .extset 0#32 v b, _, exec_of_completes trivial, rfl, rfl⟩

/-- Settles O39: a reset of a live sensor leaves its initial record. -/
theorem resetZeroesAndStops : Obligations.ResetZeroesAndStops :=
  fun _ b hlive => ⟨decode_pack .reset 0 0 b, _, exec_of_completes hlive, rfl, irq_of_trsInitial rfl⟩

/-- An operation of the sensor other than its power-on has no step without a sensor (R220). -/
theorem exec_trs_absent {i : Instr} {s : State} (hlive : s.trsLive = false) (hdev : i.device = .trs)
    (hi : i ≠ .poweron) : exec i s = .fault .trsAbsent := by
  cases i with
  | poweron => exact absurd rfl hi
  | rdCtrl | rdStatus | rdData | rdInvalid | wrCtrl | wrStatus | wrData | wrInvalid => exact onTrs_absent hlive
  | tick | timerclk | reset | save | restore => exact onTrs_absent hlive
  | extset | aEventStartReceive | aEventOther | aTx | aRx | aReset | aPoweron => cases hdev

/-- Settles O40: power-on completes in every state; without a sensor its other operations have no step. -/
theorem poweronCreatesTheBlock : Obligations.PoweronCreatesTheBlock :=
  fun _ b => ⟨decode_pack .poweron 0 0 b, ⟨_, exec_of_completes trivial, rfl, irq_of_trsInitial rfl⟩,
    fun hlive _ hdev hi => exec_trs_absent hlive hdev hi⟩

/-- Settles O41: the first three write the sensor alone, the fourth the source alone. -/
theorem frameOfTheSystemOperations : Obligations.FrameOfTheSystemOperations := by
  intro i s t h
  obtain ⟨-, rfl⟩ := exec_eq_next.1 h
  refine ⟨?_, ?_⟩
  · rintro (rfl | rfl | ⟨n, rfl⟩)
    · exact ⟨rfl, rfl, rfl, rfl, .inr rfl⟩
    · exact ⟨rfl, rfl, rfl, rfl, .inl rfl⟩
    · exact ⟨rfl, rfl, rfl, rfl, .inr rfl⟩
  · rintro ⟨v, rfl⟩
    exact ⟨rfl, rfl, rfl, rfl, rfl, fun _ _ => rfl⟩

end Sys2Proof.Proofs.Lifecycle
end

section
/-! How a run of operations unfolds (`spec/20_memory.md` R63): the first operation is executed, and the rest of
the run goes on from the state it leaves. The schedule is only where the run stands, so each law is stated
without it. -/
namespace Sys2Proof.Proofs.Runs

open Sys2Proof.Machine
open Sys2Proof.Proofs.Completion
open Sys2Proof.Proofs.OperationWord (decodeOfEncodeIsTheInstruction)

/-- What is scheduled plays no part in an operation that completes, and is kept by it. -/
theorem exec_setSchedule {i : Instr} {s t : State} (rs : List Request) (h : exec i s = .next t) :
    exec i (s.setSchedule rs) = .next (t.setSchedule rs) := by
  obtain ⟨hcomp, rfl⟩ := exec_eq_next.1 h
  exact exec_eq_next.2 ⟨(completes_congr rfl rfl rfl).2 hcomp, rfl⟩

/-- The step that performs an instruction's own entry executes it. -/
theorem step_ofInstr {i : Instr} (hwf : i.wellFormed = true) (is : List Instr) (s : State) :
    step (s.setSchedule ((i :: is).map Request.ofInstr)) =
      exec i (s.setSchedule (is.map Request.ofInstr)) := by
  rw [List.map_cons, step_cons rfl]
  exact performWord_ok _ (decodeOfEncodeIsTheInstruction i hwf)

/-- The empty run is over at once, with nothing scheduled. -/
theorem runOps_nil (s : State) : runOps [] s = .next (s.setSchedule []) := rfl

/-- A run goes on from the state its first operation leaves. -/
theorem runOps_cons {i : Instr} {s u : State} (hwf : i.wellFormed = true) (h : exec i s = .next u)
    (is : List Instr) : runOps (i :: is) s = runOps is u :=
  run_succ ((step_ofInstr hwf is s).trans (exec_setSchedule _ h))

/-- A run whose first operation completes goes on from the state that operation leaves. -/
theorem runOps_cons_of_completes {i : Instr} {s : State} (hwf : i.wellFormed = true)
    (h : Completes s i) (is : List Instr) : runOps (i :: is) s = runOps is (after i s) :=
  runOps_cons hwf (exec_of_completes h) is

/-- A run of one operation that completes. -/
theorem runOps_single {i : Instr} {s : State} (hwf : i.wellFormed = true) (h : Completes s i) :
    runOps [i] s = .next ((after i s).setSchedule []) := by
  rw [runOps_cons_of_completes hwf h, runOps_nil]

/-- A run that answers a next state executed its first operation, and went on from there. -/
theorem runOps_cons_eq_next {i : Instr} {is : List Instr} {s t : State} (hwf : i.wellFormed = true)
    (h : runOps (i :: is) s = .next t) : ∃ u, exec i s = .next u ∧ runOps is u = .next t := by
  obtain ⟨u, hstep, -⟩ := run_succ_eq_next h
  have hexec := exec_setSchedule s.schedule ((step_ofInstr hwf is s).symm.trans hstep)
  exact ⟨_, hexec, (runOps_cons hwf hexec is).symm.trans h⟩

/-- A run stops where its first step has no successor. -/
theorem run_succ_fault {n : Nat} {s : State} {r : Fault} (h : step s = .fault r) :
    Host.Core.run Sys2Proof.core (n + 1) s = .fault r := by
  have hcore : Sys2Proof.core.step s = .fault r := h
  simp only [Host.Core.run, hcore]

/-- A run stops where its first operation has no step. -/
theorem runOps_cons_fault {i : Instr} {s : State} {r : Fault} (hwf : i.wellFormed = true)
    (is : List Instr) (h : exec i (s.setSchedule (is.map Request.ofInstr)) = .fault r) :
    runOps (i :: is) s = .fault r :=
  run_succ_fault ((step_ofInstr hwf is s).trans h)

/-- A predicate that every listed operation keeps holds after a run of them. -/
theorem runOps_induction {P : State → Prop} {ops : List Instr} {s t : State}
    (hwf : ∀ i ∈ ops, i.wellFormed = true)
    (hstep : ∀ i ∈ ops, ∀ u v : State, P u → exec i u = .next v → P v)
    (hnil : ∀ u : State, P u → P (u.setSchedule [])) (hs : P s) (h : runOps ops s = .next t) : P t := by
  induction ops generalizing s with
  | nil => cases h; exact hnil s hs
  | cons i is ih =>
    obtain ⟨u, hexec, hrest⟩ := runOps_cons_eq_next (hwf i (.head is)) h
    exact ih (fun j hj => hwf j (.tail i hj)) (fun j hj => hstep j (.tail i hj))
      (hstep i (.head is) s u hs hexec) hrest

/-- With nothing scheduled, a step of a running block is a timer clock, and nothing is scheduled after it. -/
theorem runAlone_succ {s : State} (n : Nat) (hlive : s.trsLive = true) (hrun : s.trs.timerRunning = true) :
    runAlone (n + 1) s = runAlone n (after .timerclk s) := by
  have hexec : exec .timerclk (s.setSchedule []) = .next ((after .timerclk s).setSchedule []) :=
    exec_setSchedule [] (exec_of_completes hlive)
  exact run_succ ((step_nil_running (s := s.setSchedule []) rfl hlive hrun).trans hexec)

/-- No clock at all. -/
theorem runAlone_zero (s : State) : runAlone 0 s = .next (s.setSchedule []) := rfl

end Sys2Proof.Proofs.Runs
end

section
/-! The statements about the timer and the interrupt output (`spec/42_timer_irq.md`): one clock by cases, then
many clocks as iterates of it. -/
namespace Sys2Proof.Proofs.Timer

open Sys2Proof.Machine
open Sys2Proof.Proofs.Completion
open Sys2Proof.Proofs.Runs
open Sys2Proof.Proofs.OperationWord (setWidth_lowByte)
open Sys2Proof.Proofs.Registers (windowByte_congr wordOffset_ne_status_data)

/-! ### One tick, one clock -/

/-- A sample is the low byte of the source, 0 for an unavailable one (R30, R116). -/
theorem sampleWord_eq (ext : Option ExtWord) : sampleWord ext = ext.getD 0#32 &&& 0x000000FF#32 :=
  setWidth_lowByte _

/-- The sensor after a tick, in the literals of R116. -/
theorem onTimerTick_eq (ext : Option ExtWord) (t : Trs) :
    onTimerTick ext t = { t with
      data := ext.getD 0#32 &&& 0x000000FF#32, status := t.status ||| 0x00000002#32 } := by
  rw [onTimerTick_spec, sampleWord_eq]

/-- A clock leaves a stopped timer's sensor as it is (R118). -/
theorem timerClock_stopped (ext : Option ExtWord) {t : Trs} (h : t.timerRunning = false) :
    timerClock ext t = t := by
  rw [timerClock, if_neg (by rw [h]; exact Bool.false_ne_true)]

/-- The clock at count 1 is a tick and the reload (R118). -/
theorem timerClock_one (ext : Option ExtWord) {t : Trs} (h : t.timerRunning = true)
    (hcount : t.timerCount = 1) :
    timerClock ext t = { onTimerTick ext t with timerCount := Config.tickPeriod } := by
  rw [timerClock, if_pos h, if_pos hcount]
  rfl

/-- A clock of a running timer at any other count takes one from it (R118). -/
theorem timerClock_ne_one (ext : Option ExtWord) {t : Trs} (h : t.timerRunning = true)
    (hcount : t.timerCount ≠ 1) : timerClock ext t = { t with timerCount := t.timerCount - 1 } := by
  rw [timerClock, if_pos h, if_neg hcount]
  rfl

/-- A clock keeps CTRL and whether the timer runs. -/
theorem timerClock_keeps (ext : Option ExtWord) (t : Trs) :
    (timerClock ext t).ctrl = t.ctrl ∧ (timerClock ext t).timerRunning = t.timerRunning := by
  rcases timerClock_cases ext t with ⟨-, h⟩ | ⟨-, -, h⟩ | ⟨-, -, h⟩ <;> rw [h] <;> exact ⟨rfl, rfl⟩

/-- IFG is set after a tick (R116). -/
theorem onTimerTick_ifg (ext : Option ExtWord) (t : Trs) :
    (onTimerTick ext t).status.getLsbD 1 = true := by
  simp [onTimerTick_spec]

/-- The output after a tick (R120). -/
theorem irqOf_onTimerTick (ext : Option ExtWord) (t : Trs) :
    irqOf (onTimerTick ext t) = (t.ctrl.getLsbD 0 && t.ctrl.getLsbD 1) := by
  rw [irqOf_eq, onTimerTick_ifg, Bool.and_true]
  rfl

/-- Settles O26: a tick of a running timer completes, and sets IFG. -/
theorem tickSamplesAndSetsIfg : Obligations.TickSamplesAndSetsIfg := by
  intro s b hlive hrun
  have hirq : (after .tick s).irq = irqOf (onTimerTick s.ext s.trs) := Exceptions.irq_live hlive
  refine ⟨decode_pack .tick 0 0 b, _, exec_of_completes ⟨hlive, hrun⟩, ?_,
    hirq.trans (irqOf_onTimerTick s.ext s.trs)⟩
  rw [← onTimerTick_eq]
  rfl

/-- On a live sensor a tick has no step exactly while the timer is stopped (R123). -/
theorem exec_tick_fault_iff {s : State} (hlive : s.trsLive = true) :
    exec .tick s = .fault .tickWhileStopped ↔ s.trs.timerRunning = false := by
  rw [exec, execTick, onTrs_live hlive]
  cases s.trs.timerRunning <;> simp [complete]

/-- Settles O27: the guard of the tick is the timer's running flag. -/
theorem tickOfAStoppedTimerHasNoStep : Obligations.TickOfAStoppedTimerHasNoStep :=
  fun _ hlive => exec_tick_fault_iff hlive

/-- Settles O28: the three branches of a clock. -/
theorem timerclkCountsDownAndTicks : Obligations.TimerclkCountsDownAndTicks := by
  intro s b hlive
  have hexec : exec .timerclk s = .next ((s.setTrs (timerClock s.ext s.trs)).setResult .nothing) :=
    exec_of_completes hlive
  refine ⟨decode_pack .timerclk 0 0 b, ?_⟩
  rw [hexec]
  by_cases hrun : s.trs.timerRunning = true
  · by_cases hcount : s.trs.timerCount = 1
    · rw [if_pos hrun, if_pos hcount, timerClock_one s.ext hrun hcount, onTimerTick_eq]
      rfl
    · rw [if_pos hrun, if_neg hcount, timerClock_ne_one s.ext hrun hcount]
      rfl
  · rw [if_neg hrun, timerClock_stopped s.ext (Bool.not_eq_true _ ▸ hrun)]
    rfl

/-- Sensors with the same CTRL show the same bytes outside STATUS and DATA. -/
theorem windowByte_of_ctrl_eq {t u : Trs} (hctrl : t.ctrl = u.ctrl) (e : Endian) {a : Word}
    (ha : a.toNat < 4 ∨ 12 ≤ a.toNat) : windowByte e t a = windowByte e u a := by
  obtain ⟨h4, h8⟩ := wordOffset_ne_status_data ha
  apply windowByte_congr
  simp only [readWindow_spec, if_neg h4, if_neg h8, hctrl]

/-- Settles O29: both operations keep CTRL and whether the timer runs, and touch nothing but the sensor. -/
theorem frameOfTheTimerOperations : Obligations.FrameOfTheTimerOperations := by
  intro i s t hi h
  obtain ⟨-, rfl⟩ := exec_eq_next.1 h
  rcases hi with rfl | rfl
  · exact ⟨rfl, rfl, fun _ => rfl, rfl, rfl, rfl, rfl, rfl,
      fun e _ => windowByte_of_ctrl_eq (t := onTimerTick s.ext s.trs) (u := s.trs) rfl e⟩
  · obtain ⟨hctrl, hrun⟩ := timerClock_keeps s.ext s.trs
    exact ⟨hctrl, hrun, nofun, rfl, rfl, rfl, rfl, rfl,
      fun e _ => windowByte_of_ctrl_eq hctrl e⟩

/-! ### Many clocks -/

/-- Setting IFG twice is setting it once, and the sample depends on the source alone. -/
theorem onTimerTick_onTimerTick (ext : Option ExtWord) (t : Trs) :
    onTimerTick ext (onTimerTick ext t) = onTimerTick ext t := by
  simp [onTimerTick_spec, BitVec.or_assoc]

/-- A tick does not read the count. -/
theorem onTimerTick_setCount (ext : Option ExtWord) (t : Trs) (n : Nat) :
    onTimerTick ext { t with timerCount := n } = { onTimerTick ext t with timerCount := n } := rfl

/-- Any number of clocks leave a stopped timer's sensor as it is. -/
theorem iterate_timerClock_stopped (ext : Option ExtWord) {t : Trs} (h : t.timerRunning = false) (n : Nat) :
    (timerClock ext)^[n] t = t :=
  Function.iterate_fixed (timerClock_stopped ext h) n

/-- Fewer clocks than the count take their number from it and change nothing else (R119). -/
theorem iterate_timerClock_lt (ext : Option ExtWord) {t : Trs} (hrun : t.timerRunning = true) {n : Nat}
    (hn : n < t.timerCount) : (timerClock ext)^[n] t = { t with timerCount := t.timerCount - n } := by
  induction n with
  | zero => rfl
  | succ n ih =>
    have hne : t.timerCount - n ≠ 1 := by omega
    rw [Function.iterate_succ_apply', ih (by omega),
      timerClock_ne_one ext (t := { t with timerCount := t.timerCount - n }) hrun hne]
    rfl

/-- As many clocks as the count end in the tick and the reload (R119). -/
theorem iterate_timerClock_count (ext : Option ExtWord) {t : Trs} (hrun : t.timerRunning = true)
    (hcount : 1 ≤ t.timerCount) :
    (timerClock ext)^[t.timerCount] t = { onTimerTick ext t with timerCount := Config.tickPeriod } := by
  obtain ⟨m, hm⟩ : ∃ m, t.timerCount = m + 1 := ⟨t.timerCount - 1, by omega⟩
  have hone : t.timerCount - m = 1 := by omega
  rw [hm, Function.iterate_succ_apply', iterate_timerClock_lt ext hrun (by omega),
    timerClock_one ext (t := { t with timerCount := t.timerCount - m }) hrun hone]
  rfl

/-- Whole periods after the first tick end in a tick and the reload again (R119). -/
theorem iterate_timerClock_periods (ext : Option ExtWord) {t : Trs} (hrun : t.timerRunning = true)
    (hcount : 1 ≤ t.timerCount) (k : Nat) :
    (timerClock ext)^[t.timerCount + k * Config.tickPeriod] t =
      { onTimerTick ext t with timerCount := Config.tickPeriod } := by
  induction k with
  | zero => rw [Nat.zero_mul, Nat.add_zero, iterate_timerClock_count ext hrun hcount]
  | succ k ih =>
    have hsplit : t.timerCount + (k + 1) * Config.tickPeriod =
        Config.tickPeriod + (t.timerCount + k * Config.tickPeriod) := by ring
    have hperiod := iterate_timerClock_count ext
      (t := { onTimerTick ext t with timerCount := Config.tickPeriod }) hrun one_le_tickPeriod
    rw [hsplit, Function.iterate_add_apply, ih, hperiod, onTimerTick_setCount, onTimerTick_onTimerTick]

/-- The sensor after any number of clocks from the first tick on: the sample, IFG, and how far the period has
run (R119). -/
theorem iterate_timerClock_eq (ext : Option ExtWord) {t : Trs} (hrun : t.timerRunning = true)
    (hcount : 1 ≤ t.timerCount) (k : Nat) {j : Nat} (hj : j < Config.tickPeriod) :
    (timerClock ext)^[t.timerCount + k * Config.tickPeriod + j] t = { t with
      data := ext.getD 0#32 &&& 0x000000FF#32
      status := t.status ||| 0x00000002#32
      timerCount := Config.tickPeriod - j } := by
  rw [Nat.add_comm, Function.iterate_add_apply, iterate_timerClock_periods ext hrun hcount,
    iterate_timerClock_lt ext (t := { onTimerTick ext t with timerCount := Config.tickPeriod }) hrun hj,
    onTimerTick_eq]

/-- A running block left alone: the sensor is the iterate of its clock, and the source is kept. -/
theorem runAlone_eq {s : State} (hlive : s.trsLive = true) (hrun : s.trs.timerRunning = true) (n : Nat) :
    ∃ t, runAlone n s = .next t ∧ t.trs = (timerClock s.ext)^[n] s.trs ∧ t.ext = s.ext := by
  induction n generalizing s with
  | zero => exact ⟨_, runAlone_zero s, rfl, rfl⟩
  | succ n ih =>
    rw [runAlone_succ n hlive hrun, Function.iterate_succ_apply]
    exact ih (s := after .timerclk s) hlive ((timerClock_keeps s.ext s.trs).2.trans hrun)

/-- Settles O30: below the count only the count moves, and at the count the tick comes. -/
theorem runningTimerTicksWhenItsCountIsOut : Obligations.RunningTimerTicksWhenItsCountIsOut := by
  intro s hlive hrun hcount
  refine ⟨fun j hj => ?_, ?_⟩
  · obtain ⟨t, h, htrs, hext⟩ := runAlone_eq hlive hrun j
    exact ⟨t, h, htrs.trans (iterate_timerClock_lt s.ext hrun hj), hext⟩
  · obtain ⟨t, h, htrs, hext⟩ := runAlone_eq hlive hrun s.trs.timerCount
    refine ⟨t, h, ?_, hext⟩
    rw [htrs, iterate_timerClock_count s.ext hrun hcount, onTimerTick_eq]

/-- Settles O31: the write loads a full period, so the clocks count from one. -/
theorem ticksComeEveryTickPeriodFromTheStart : Obligations.TicksComeEveryTickPeriodFromTheStart := by
  intro s u v h hstopped hen
  obtain ⟨hlive, rfl⟩ := exec_eq_next.1 h
  have htrs : (after (.wrCtrl v) s).trs =
      { s.trs with ctrl := v &&& 3#32, timerRunning := true, timerCount := Config.tickPeriod } := by
    have hspec := Registers.writeCtrl_eq v s.trs
    rw [hen, if_pos ⟨rfl, hstopped⟩] at hspec
    exact hspec
  have hrun : (after (.wrCtrl v) s).trs.timerRunning = true := by rw [htrs]
  have hcount : (after (.wrCtrl v) s).trs.timerCount = Config.tickPeriod := by rw [htrs]
  refine ⟨by rw [htrs], by rw [htrs], fun j hj => ?_, fun k j hk hj => ?_⟩
  · obtain ⟨t, hrunj, ht, -⟩ := runAlone_eq (s := after (.wrCtrl v) s) hlive hrun j
    rw [iterate_timerClock_lt _ hrun (hcount.symm ▸ hj), htrs] at ht
    exact ⟨t, hrunj, by rw [ht], by rw [ht]⟩
  · have hsplit : k * Config.tickPeriod + j =
        (after (.wrCtrl v) s).trs.timerCount + (k - 1) * Config.tickPeriod + j := by
      obtain ⟨m, rfl⟩ : ∃ m, k = m + 1 := ⟨k - 1, by omega⟩
      rw [hcount, Nat.add_sub_cancel]
      ring
    obtain ⟨t, hrunj, ht, -⟩ :=
      runAlone_eq (s := after (.wrCtrl v) s) hlive hrun (k * Config.tickPeriod + j)
    rw [hsplit, iterate_timerClock_eq _ hrun (hcount.symm ▸ one_le_tickPeriod) _ hj, htrs] at ht
    exact ⟨t, hrunj, by rw [ht]; rfl, by rw [ht], by rw [ht]⟩

/-! ### The interrupt output -/

/-- A tick can raise the output and never lowers it (R121). -/
theorem irqOf_onTimerTick_of_irqOf {ext : Option ExtWord} {t : Trs} (h : irqOf t = true) :
    irqOf (onTimerTick ext t) = true := by
  obtain ⟨hen, hien, -⟩ := (Exceptions.irqOf_iff t).1 h
  rw [irqOf_onTimerTick, hen, hien]
  rfl

/-- A clock either is the tick at count 1 or leaves the output as it is. -/
theorem irqOf_timerClock (ext : Option ExtWord) (t : Trs) :
    (t.timerCount = 1 ∧ irqOf (timerClock ext t) = irqOf (onTimerTick ext t)) ∨
      irqOf (timerClock ext t) = irqOf t := by
  rcases timerClock_cases ext t with ⟨-, h⟩ | ⟨-, hcount, h⟩ | ⟨-, -, h⟩
  · exact .inr (by rw [h])
  · exact .inl ⟨hcount, by rw [h]; rfl⟩
  · exact .inr (by rw [h]; rfl)

/-- Settles O33: an operation that writes the sensor is one of six, of which the tick and the clock at count 1
do not lower the output, any other clock keeps it, and a reset or a power-on leaves it 0. -/
theorem irqChangesOnlyWhereTheTableSays : Obligations.IrqChangesOnlyWhereTheTableSays := by
  intro i s t h
  obtain ⟨hcomp, rfl⟩ := exec_eq_next.1 h
  rcases keepsSensor_or_writes i with hkeep | ⟨v, rfl⟩ | rfl | rfl | rfl | rfl | ⟨n, rfl⟩
  · have hirq : (after i s).irq = s.irq := irq_congr (hkeep s).1 (hkeep s).2
    rw [hirq]
    exact ⟨fun h0 h1 => absurd (h0.symm.trans h1) Bool.false_ne_true,
      fun h1 h0 => absurd (h0.symm.trans h1) Bool.false_ne_true⟩
  · exact ⟨fun _ _ => .inl ⟨v, rfl⟩, fun _ _ => .inl ⟨v, rfl⟩⟩
  · have hafter : (after .tick s).irq = irqOf (onTimerTick s.ext s.trs) := Exceptions.irq_live hcomp.1
    rw [hafter, Exceptions.irq_live hcomp.1]
    exact ⟨fun _ _ => .inr (.inl rfl),
      fun h1 h0 => absurd (h0.symm.trans (irqOf_onTimerTick_of_irqOf h1)) Bool.false_ne_true⟩
  · have hafter : (after .timerclk s).irq = irqOf (timerClock s.ext s.trs) := Exceptions.irq_live hcomp
    rw [hafter, Exceptions.irq_live hcomp]
    rcases irqOf_timerClock s.ext s.trs with ⟨hcount, heq⟩ | heq
    · rw [heq]
      exact ⟨fun _ _ => .inr (.inr (.inl ⟨rfl, hcount⟩)),
        fun h1 h0 => absurd (h0.symm.trans (irqOf_onTimerTick_of_irqOf h1)) Bool.false_ne_true⟩
    · rw [heq]
      exact ⟨fun h0 h1 => absurd (h0.symm.trans h1) Bool.false_ne_true,
        fun h1 h0 => absurd (h0.symm.trans h1) Bool.false_ne_true⟩
  · have hzero : (after .reset s).irq = false := Lifecycle.irq_of_trsInitial rfl
    exact ⟨fun _ h1 => absurd (hzero.symm.trans h1) Bool.false_ne_true, fun _ _ => .inr (.inl rfl)⟩
  · have hzero : (after .poweron s).irq = false := Lifecycle.irq_of_trsInitial rfl
    exact ⟨fun _ h1 => absurd (hzero.symm.trans h1) Bool.false_ne_true, fun _ _ => .inr (.inr (.inl rfl))⟩
  · exact ⟨fun _ _ => .inr (.inr (.inr ⟨n, rfl⟩)), fun _ _ => .inr (.inr (.inr ⟨n, rfl⟩))⟩

end Sys2Proof.Proofs.Timer
end

section
/-! The statements about the companion device (`spec/45_addressed_slave.md`), by what each operation leaves of
its record, and about sequences of its operations. -/
namespace Sys2Proof.Proofs.CompanionDevice

open Sys2Proof.Machine
open Sys2Proof.Proofs.Completion
open Sys2Proof.Proofs.OperationWord
open Sys2Proof.Proofs.Runs
open Sys2Proof.Proofs.AddressedSlave (pointerInRange_iff exec_aTx_outOfRange)

/-! ### One operation -/

/-- The refresh at a read-start event, in the literals of R160. -/
theorem refreshData_eq (ext : Option ExtWord) (a : Ars) :
    refreshData ext a = { a with
      data :=
        if a.pointer = 1#8 then
          if a.ctrl.getLsbD 0 = true then (ext.getD 0#32).extractLsb' 0 8 else 0x00#8
        else a.data } := by
  rcases refreshData_cases ext a with ⟨hp, hen, h⟩ | ⟨hp, hen, h⟩ | ⟨hp, h⟩
  · rw [h, if_pos hp, if_pos hen]
    rfl
  · rw [h, if_pos hp, if_neg (hen ▸ Bool.false_ne_true)]
  · rw [h, if_neg hp]

/-- What a received byte does, as one record (R163). -/
theorem receiveByte_eq (v : Byte) (a : Ars) :
    receiveByte v a =
      if a.transferCount = .needAddress then { a with pointer := v, transferCount := .needData }
      else if a.pointer = 0#8 then { a with ctrl := v, pointer := 1#8 }
      else a := by
  rcases receiveByte_cases v a with ⟨hc, h⟩ | ⟨hc, hp, h⟩ | ⟨hc, hp, h⟩
  · rw [h, if_pos hc]
  · rw [h, if_neg (by simp [hc]), if_pos hp]
  · rw [h, if_neg (by simp [hc]), if_neg hp]

/-- Settles O42: the event refreshes DATA, then clears `transferCount`. -/
theorem startReceiveRefreshesData : Obligations.StartReceiveRefreshesData := by
  intro s b hlive
  have hexec : exec .aEventStartReceive s =
      .next ((s.setArs (endTransfer (refreshData s.ext s.ars))).setResult .success) :=
    exec_of_completes hlive
  refine ⟨decode_pack .aEvent 0 0 b, ?_⟩
  rw [hexec, refreshData_eq]
  rfl

/-- Settles O43: a code other than 0 selects the fallback form, which clears `transferCount` alone. -/
theorem otherEventsOnlyEndTheTransfer : Obligations.OtherEventsOnlyEndTheTransfer := by
  intro s k b hlive hk
  refine ⟨?_, exec_of_completes hlive⟩
  rw [← decodeEvent_other hk]
  exact decode_pack .aEvent k 0#32 b

/-- Settles O45: the low byte of the value is received, by the three cases of a received byte. -/
theorem receiveTakesAddressThenData : Obligations.ReceiveTakesAddressThenData := by
  intro s d b hlive
  refine ⟨decode_pack .aRx 0#32 d b, fun v => ?_⟩
  rw [← receiveByte_eq]
  exact exec_of_completes hlive

/-- Settles O46: the reset names every field but the pointer. -/
theorem arsResetKeepsThePointer : Obligations.ArsResetKeepsThePointer :=
  fun _ b hlive => ⟨decode_pack .aReset 0 0 b, exec_of_completes hlive⟩

/-- Settles O47: power-on completes in every state with the initial record. -/
theorem arsPoweronZeroesEverything : Obligations.ArsPoweronZeroesEverything :=
  fun _ b => ⟨decode_pack .aPoweron 0 0 b, exec_of_completes trivial⟩

/-- Settles O52: both are entries of their own, performed raw on a live device. -/
theorem arsSaveAndRestoreAreVerbatim : Obligations.ArsSaveAndRestoreAreVerbatim := by
  intro s n rest hlive
  refine ⟨fun hs => ?_, fun hs => ?_⟩
  · rw [step_cons hs]
    exact onArs_live (s := s.setSchedule rest) hlive
  · rw [step_cons hs]
    exact onArs_live (s := s.setSchedule rest) hlive

/-- An operation of the companion device leaves the sensor, its liveness and the source as they are. -/
theorem keepsSensor_of_device_ars {i : Instr} (hdev : i.device = .ars) (s : State) :
    (after i s).trs = s.trs ∧ (after i s).trsLive = s.trsLive ∧ (after i s).ext = s.ext := by
  cases i with
  | aEventStartReceive | aEventOther | aTx | aRx | aReset | aPoweron => exact ⟨rfl, rfl, rfl⟩
  | rdCtrl | rdStatus | rdData | rdInvalid | wrCtrl | wrStatus | wrData | wrInvalid => cases hdev
  | tick | timerclk | reset | poweron | save | restore | extset => cases hdev

/-- Only power-on changes whether the companion device is instantiated. -/
theorem arsLiveAfter_eq_or (live : Bool) (i : Instr) : i = .aPoweron ∨ arsLiveAfter live i = live := by
  unfold arsLiveAfter
  split
  · exact .inl rfl
  · exact .inr rfl

/-- A transmit request keeps both registers and `transferCount` (R162). -/
theorem arsAfter_aTx_keeps (ext : Option ExtWord) (a : Ars) :
    (arsAfter ext a .aTx).ctrl = a.ctrl ∧ (arsAfter ext a .aTx).data = a.data ∧
      (arsAfter ext a .aTx).transferCount = a.transferCount := by
  rw [arsAfter]
  split <;> exact ⟨rfl, rfl, rfl⟩

/-- No received byte is stored in DATA (R163). -/
theorem receiveByte_data (v : Byte) (a : Ars) : (receiveByte v a).data = a.data := by
  rcases receiveByte_cases v a with ⟨-, h⟩ | ⟨-, -, h⟩ | ⟨-, -, h⟩ <;> rw [h]

/-- Settles O48: no operation of the device touches the sensor or the source, and each keeps the fields its
rule does not name. -/
theorem frameOfTheCompanionDevice : Obligations.FrameOfTheCompanionDevice := by
  intro i s t hdev h
  obtain ⟨-, rfl⟩ := exec_eq_next.1 h
  obtain ⟨htrs, hlive, hext⟩ := keepsSensor_of_device_ars hdev s
  refine ⟨htrs, hlive, irq_congr htrs hlive, hext, rfl, arsLiveAfter_eq_or s.arsLive i, ?_, ?_, ?_, ?_, ?_,
    fun _ _ => by rw [htrs]⟩
  · rintro rfl
    have hars : (after .aEventStartReceive s).ars = endTransfer (refreshData s.ext s.ars) := rfl
    rw [hars, refreshData_eq]
    exact ⟨rfl, rfl⟩
  · rintro ⟨k, rfl⟩
    exact ⟨rfl, rfl, rfl⟩
  · rintro rfl
    exact arsAfter_aTx_keeps s.ext s.ars
  · rintro ⟨b, rfl⟩
    exact receiveByte_data b s.ars
  · rintro rfl
    rfl

/-! ### Sequences -/

/-- The state after operations that all complete, one after another. -/
def afterAll (ops : List Instr) (s : State) : State := ops.foldl (fun u i => after i u) s

/-- On a live companion device every operation of it completes, and leaves it live. -/
theorem completes_of_device_ars {i : Instr} {s : State} (hlive : s.arsLive = true) (hdev : i.device = .ars) :
    Completes s i ∧ (after i s).arsLive = true := by
  cases i with
  | aPoweron => exact ⟨trivial, rfl⟩
  | aEventStartReceive | aEventOther | aTx | aRx | aReset => exact ⟨hlive, hlive⟩
  | rdCtrl | rdStatus | rdData | rdInvalid | wrCtrl | wrStatus | wrData | wrInvalid => cases hdev
  | tick | timerclk | reset | poweron | save | restore | extset => cases hdev

/-- On a live companion device every run of its operations completes. -/
theorem runOps_device_ars {ops : List Instr} {s : State} (hlive : s.arsLive = true)
    (hops : ∀ i ∈ ops, i.wellFormed = true ∧ i.device = .ars) :
    runOps ops s = .next ((afterAll ops s).setSchedule []) := by
  induction ops generalizing s with
  | nil => rfl
  | cons i is ih =>
    obtain ⟨hwf, hdev⟩ := hops i (.head is)
    obtain ⟨hcomp, hlive'⟩ := completes_of_device_ars hlive hdev
    rw [runOps_cons_of_completes hwf hcomp, ih hlive' fun j hj => hops j (.tail i hj)]
    rfl

/-- A transmit request right after a read-start event at DATA, on an enabled device, returns the low byte of
the source (R160, R162). -/
theorem resultOf_aTx_refreshed (t : Trs) (ext : Option ExtWord) {a : Ars} (hp : a.pointer = 1#8)
    (hen : a.ctrl.getLsbD 0 = true) :
    resultOf t (arsAfter ext a .aEventStartReceive) .aTx = .byte ((ext.getD 0#32).extractLsb' 0 8) := by
  rw [arsAfter, refreshData_eq, if_pos hp, if_pos hen, hp]
  rfl

/-- Settles O49: the bytes are an address and a data byte because the event before them cleared
`transferCount`, and the read-start event finds the pointer at DATA. -/
theorem canonicalTransactions : Obligations.CanonicalTransactions := by
  intro s hlive
  refine ⟨⟨_, runOps_device_ars hlive (by decide), rfl⟩, fun hen => ?_⟩
  refine ⟨_, _, runOps_device_ars hlive (by decide), ?_, runOps_device_ars hlive (by decide), rfl⟩
  exact resultOf_aTx_refreshed s.trs s.ext (a := { s.ars with pointer := 1#8, transferCount := .needData })
    rfl hen

/-- Settles O51: the read-start event finds the pointer at CTRL, so it refreshes nothing. -/
theorem sequentialReadFromCtrlIsStale : Obligations.SequentialReadFromCtrlIsStale :=
  fun _ hlive => ⟨_, _, _, runOps_device_ars hlive (by decide), rfl,
    runOps_device_ars hlive (by decide), rfl, runOps_device_ars hlive (by decide), rfl⟩

/-- Past the last register any number of transmit requests return the sentinel and keep the record. -/
theorem runOps_aTx_outOfRange {s : State} (hlive : s.arsLive = true) (hout : 2 ≤ s.ars.pointer.toNat)
    (n : Nat) : ∃ t, runOps (List.replicate (n + 1) .aTx) s = .next t ∧
      t.result = .byte 0xFF#8 ∧ t.ars = s.ars := by
  induction n generalizing s with
  | zero => exact ⟨_, runOps_cons rfl (exec_aTx_outOfRange hlive hout) [], rfl, rfl⟩
  | succ n ih =>
    rw [List.replicate_succ, runOps_cons rfl (exec_aTx_outOfRange hlive hout)]
    exact ih hlive hout

/-- With the pointer past the last register, an operation that is no address byte and no power-on keeps it. -/
theorem exec_keeps_outOfRange {i : Instr} {s t : State} {c : TransferCount} (hlive : s.arsLive = true)
    (hout : 2 ≤ s.ars.pointer.toNat) (hc : countUnlessAddressed s.ars.transferCount i = some c)
    (h : exec i s = .next t) :
    t.arsLive = true ∧ t.ars.pointer = s.ars.pointer ∧ t.ars.transferCount = c := by
  obtain ⟨-, rfl⟩ := exec_eq_next.1 h
  cases i with
  | aPoweron => cases hc
  | aEventStartReceive =>
    cases hc
    refine ⟨hlive, ?_, rfl⟩
    have hars : (after .aEventStartReceive s).ars = endTransfer (refreshData s.ext s.ars) := rfl
    rw [hars, refreshData_eq]
    rfl
  | aTx =>
    cases hc
    have hrange : ¬ pointerInRange s.ars = true := fun hin =>
      absurd ((pointerInRange_iff _).1 hin) (Nat.not_lt.2 hout)
    have hars : (after .aTx s).ars = s.ars := if_neg hrange
    rw [hars]
    exact ⟨hlive, rfl, rfl⟩
  | aRx b =>
    have hars : (after (.aRx b) s).ars = receiveByte b s.ars := rfl
    rw [hars]
    rcases receiveByte_cases b s.ars with ⟨hneed, -⟩ | ⟨-, hp, -⟩ | ⟨hneed, -, heq⟩
    · rw [hneed] at hc
      cases hc
    · rw [hp] at hout
      exact absurd hout (by decide)
    · rw [hneed] at hc
      cases hc
      rw [heq]
      exact ⟨hlive, rfl, hneed⟩
  | aEventOther | aReset => cases hc; exact ⟨hlive, rfl, rfl⟩
  | rdCtrl | rdStatus | rdData | rdInvalid => cases hc; exact ⟨hlive, rfl, rfl⟩
  | wrCtrl | wrStatus | wrData | wrInvalid => cases hc; exact ⟨hlive, rfl, rfl⟩
  | tick | timerclk | reset | poweron | save | restore | extset => cases hc; exact ⟨hlive, rfl, rfl⟩

/-- A sequence without an address byte starts with an operation that is none, and goes on without one. -/
theorem noAddressByte_cons {c : TransferCount} {i : Instr} {is : List Instr}
    (h : noAddressByte c (i :: is) = true) :
    ∃ c', countUnlessAddressed c i = some c' ∧ noAddressByte c' is = true := by
  rw [noAddressByte] at h
  cases hc : countUnlessAddressed c i with
  | none => rw [hc] at h; cases h
  | some c' => rw [hc] at h; exact ⟨c', rfl, h⟩

/-- A run without an address byte or a power-on keeps a pointer past the last register. -/
theorem runOps_keeps_outOfRange {ops : List Instr} {s u : State} (hlive : s.arsLive = true)
    (hout : 2 ≤ s.ars.pointer.toNat) (hwf : ∀ i ∈ ops, i.wellFormed = true)
    (hno : noAddressByte s.ars.transferCount ops = true) (h : runOps ops s = .next u) :
    u.arsLive = true ∧ u.ars.pointer = s.ars.pointer := by
  induction ops generalizing s with
  | nil => cases h; exact ⟨hlive, rfl⟩
  | cons i is ih =>
    obtain ⟨c, hc, hrest⟩ := noAddressByte_cons hno
    obtain ⟨v, hexec, hrun⟩ := runOps_cons_eq_next (hwf i (.head is)) h
    obtain ⟨hvlive, hvp, hvc⟩ := exec_keeps_outOfRange hlive hout hc hexec
    obtain ⟨hulive, hup⟩ := ih hvlive (hvp ▸ hout) (fun j hj => hwf j (.tail i hj)) (hvc ▸ hrest) hrun
    exact ⟨hulive, hup.trans hvp⟩

/-- Settles O50: the pointer stays past the last register, so the next request is answered by the sentinel. -/
theorem sentinelUntilReaddressed : Obligations.SentinelUntilReaddressed := by
  intro s n hlive hout
  refine ⟨runOps_aTx_outOfRange hlive hout n, fun ops u hwf hno hrun => ?_⟩
  obtain ⟨hulive, hup⟩ := runOps_keeps_outOfRange hlive hout hwf hno hrun
  exact ⟨hup, exec_aTx_outOfRange hulive (hup ▸ hout)⟩

end Sys2Proof.Proofs.CompanionDevice
end

section
/-! The statements over all operations: which complete, who writes what, what reaches what
(`spec/00_scope.md` R3, R12, `spec/10_state.md` R25, R30). -/
namespace Sys2Proof.Proofs.AllOperations

open Sys2Proof.Machine
open Sys2Proof.Proofs.Completion
open Sys2Proof.Proofs.Runs
open Sys2Proof.Proofs.CompanionDevice (keepsSensor_of_device_ars)

/-! ### Which operations complete -/

/-- Settles O53: on live devices only the guards of `TICK` and `RESTORE` are left. -/
theorem everyOperationCompletes : Obligations.EveryOperationCompletes := by
  intro i s htrs hars htick hrestore
  suffices hcomp : Completes s i from ⟨_, exec_of_completes hcomp⟩
  cases i with
  | tick => exact ⟨htrs, htick rfl⟩
  | restore n => exact ⟨htrs, hrestore n rfl⟩
  | poweron | aPoweron | extset => exact trivial
  | rdCtrl | rdStatus | rdData | rdInvalid | wrCtrl | wrStatus | wrData | wrInvalid => exact htrs
  | timerclk | reset | save => exact htrs
  | aEventStartReceive | aEventOther | aTx | aRx | aReset => exact hars

/-! ### Who writes the sensor -/

/-- A clock that is not the tick at count 1 of a running timer keeps STATUS and DATA. -/
theorem timerClock_keeps_or_ticks (ext : Option ExtWord) (t : Trs) :
    (t.timerRunning = true ∧ t.timerCount = 1) ∨
      ((timerClock ext t).status = t.status ∧ (timerClock ext t).data = t.data) := by
  rcases timerClock_cases ext t with ⟨-, h⟩ | ⟨hrun, hcount, -⟩ | ⟨-, -, h⟩
  · exact .inr ⟨by rw [h], by rw [h]⟩
  · exact .inl ⟨hrun, hcount⟩
  · exact .inr ⟨by rw [h], by rw [h]⟩

/-- A clock never clears IFG (R118). -/
theorem timerClock_ifg {ext : Option ExtWord} {t : Trs} (h : t.status.getLsbD 1 = true) :
    (timerClock ext t).status.getLsbD 1 = true := by
  rcases timerClock_cases ext t with ⟨-, heq⟩ | ⟨-, -, heq⟩ | ⟨-, -, heq⟩ <;> rw [heq]
  · exact h
  · exact Timer.onTimerTick_ifg ext t
  · exact h

/-- IFG goes up only by a tick, alone or in a clock, or by a restore (R25). -/
theorem ifg_set_by {i : Instr} {s : State} (h0 : s.trs.status.getLsbD 1 = false)
    (h1 : (after i s).trs.status.getLsbD 1 = true) :
    i = .tick ∨ (i = .timerclk ∧ s.trs.timerRunning = true ∧ s.trs.timerCount = 1) ∨
      ∃ n, i = .restore n := by
  have hsame (heq : (after i s).trs.status = s.trs.status) : False := by
    rw [heq, h0] at h1
    cases h1
  have hzero (heq : (after i s).trs.status = 0#32) : False := by
    rw [heq] at h1
    exact absurd h1 (by decide)
  rcases keepsSensor_or_writes i with hkeep | ⟨v, rfl⟩ | rfl | rfl | rfl | rfl | ⟨n, rfl⟩
  · exact (hsame (congrArg Trs.status (hkeep s).1)).elim
  · exact (hsame (Registers.writeCtrl_keeps v s.trs).1).elim
  · exact .inl rfl
  · rcases timerClock_keeps_or_ticks s.ext s.trs with htick | ⟨hstatus, -⟩
    · exact .inr (.inl ⟨rfl, htick⟩)
    · exact (hsame hstatus).elim
  · exact (hzero rfl).elim
  · exact (hzero rfl).elim
  · exact .inr (.inr ⟨n, rfl⟩)

/-- IFG goes down only by a reset, a power-on or a restore (R25). -/
theorem ifg_cleared_by {i : Instr} {s : State} (h1 : s.trs.status.getLsbD 1 = true)
    (h0 : (after i s).trs.status.getLsbD 1 = false) :
    i = .reset ∨ i = .poweron ∨ ∃ n, i = .restore n := by
  have hset (hup : (after i s).trs.status.getLsbD 1 = true) : False := by
    rw [hup] at h0
    cases h0
  rcases keepsSensor_or_writes i with hkeep | ⟨v, rfl⟩ | rfl | rfl | rfl | rfl | ⟨n, rfl⟩
  · exact (hset (by rwa [(hkeep s).1])).elim
  · have hstatus : (after (.wrCtrl v) s).trs.status = s.trs.status := (Registers.writeCtrl_keeps v s.trs).1
    exact (hset (by rwa [hstatus])).elim
  · exact (hset (Timer.onTimerTick_ifg s.ext s.trs)).elim
  · exact (hset (timerClock_ifg h1)).elim
  · exact .inl rfl
  · exact .inr (.inl rfl)
  · exact .inr (.inr ⟨n, rfl⟩)

/-- DATA changes only by a tick, a clock, a reset, a power-on or a restore (R26). -/
theorem data_changed_by {i : Instr} {s : State} (hne : (after i s).trs.data ≠ s.trs.data) :
    i = .tick ∨ i = .timerclk ∨ i = .reset ∨ i = .poweron ∨ ∃ n, i = .restore n := by
  rcases keepsSensor_or_writes i with hkeep | ⟨v, rfl⟩ | hi
  · exact absurd (congrArg Trs.data (hkeep s).1) hne
  · exact absurd (Registers.writeCtrl_keeps v s.trs).2 hne
  · exact hi

/-- CTRL and whether the timer runs change only by a write of CTRL, a reset, a power-on or a restore (R115,
R233). -/
theorem ctrl_or_running_changed_by {i : Instr} {s : State}
    (hne : (after i s).trs.ctrl ≠ s.trs.ctrl ∨ (after i s).trs.timerRunning ≠ s.trs.timerRunning) :
    (∃ v, i = .wrCtrl v) ∨ i = .reset ∨ i = .poweron ∨ ∃ n, i = .restore n := by
  have hsame (heq : (after i s).trs.ctrl = s.trs.ctrl ∧
      (after i s).trs.timerRunning = s.trs.timerRunning) : False :=
    hne.elim (fun h => h heq.1) (fun h => h heq.2)
  rcases keepsSensor_or_writes i with hkeep | hwr | rfl | rfl | hi
  · exact (hsame ⟨by rw [(hkeep s).1], by rw [(hkeep s).1]⟩).elim
  · exact .inl hwr
  · exact (hsame ⟨rfl, rfl⟩).elim
  · exact (hsame (Timer.timerClock_keeps s.ext s.trs)).elim
  · exact .inr hi

/-- Settles O54: the writers of each field. -/
theorem whoWritesTheRegisters : Obligations.WhoWritesTheRegisters := by
  intro i s t h
  obtain ⟨-, rfl⟩ := exec_eq_next.1 h
  exact ⟨ifg_set_by, ifg_cleared_by, data_changed_by, fun hne => ctrl_or_running_changed_by (.inl hne),
    fun hne => ctrl_or_running_changed_by (.inr hne)⟩

/-! ### No tick after a stop -/

/-- The timer is stopped, and STATUS and DATA are those of `t`, or both 0. -/
def StoppedFrom (t : Trs) (s : State) : Prop :=
  s.trs.timerRunning = false ∧
    (s.trs.data = t.data ∧ s.trs.status = t.status ∨ s.trs.data = 0#32 ∧ s.trs.status = 0#32)

/-- An operation that neither sets EN nor restores a snapshot leaves a stopped timer stopped, and STATUS and
DATA as they are, or both 0. -/
theorem exec_keeps_stoppedFrom {i : Instr} {t : Trs} {u v : State}
    (hwr : ∀ w, i = .wrCtrl w → w.getLsbD 0 = false) (hre : ∀ n, i ≠ .restore n)
    (hu : StoppedFrom t u) (h : exec i u = .next v) : StoppedFrom t v := by
  obtain ⟨hcomp, rfl⟩ := exec_eq_next.1 h
  obtain ⟨hstop, hkept⟩ := hu
  rcases keepsSensor_or_writes i with hkeep | ⟨w, rfl⟩ | rfl | rfl | rfl | rfl | ⟨n, rfl⟩
  · rw [StoppedFrom, (hkeep u).1]
    exact ⟨hstop, hkept⟩
  · have htrs : (after (.wrCtrl w) u).trs = _ := Registers.writeCtrl_eq w u.trs
    rw [StoppedFrom, htrs]
    exact ⟨hwr w rfl, hkept⟩
  · exact absurd (hstop.symm.trans hcomp.2) Bool.false_ne_true
  · have htrs : (after .timerclk u).trs = u.trs := Timer.timerClock_stopped u.ext hstop
    rw [StoppedFrom, htrs]
    exact ⟨hstop, hkept⟩
  · exact ⟨rfl, .inr ⟨rfl, rfl⟩⟩
  · exact ⟨rfl, .inr ⟨rfl, rfl⟩⟩
  · exact absurd rfl (hre n)

/-- Settles O55: every operation of the run keeps the timer stopped. -/
theorem noTickUntilEnIsSetAgain : Obligations.NoTickUntilEnIsSetAgain := by
  intro ops s t hstop hops hrun
  refine runOps_induction (P := StoppedFrom s.trs) (fun i hi => (hops i hi).1) (fun i hi u v hu hexec => ?_)
    (fun _ hu => hu) ⟨hstop, .inl ⟨rfl, rfl⟩⟩ hrun
  obtain ⟨-, hwr, hre⟩ := hops i hi
  exact exec_keeps_stoppedFrom hwr hre hu hexec

/-! ### The source -/

/-- Only `EXTSET` writes the source (R139). -/
theorem extAfter_eq_or (ext : Option ExtWord) (i : Instr) : extAfter ext i = ext ∨ ∃ v, i = .extset v := by
  unfold extAfter
  split
  · exact .inr ⟨_, rfl⟩
  · exact .inl rfl

/-- Settles O56: the schedule is no part of what an operation writes, and the source has one writer. -/
theorem onlyExtsetWritesTheSource : Obligations.OnlyExtsetWritesTheSource := by
  intro i s t h
  obtain ⟨-, rfl⟩ := exec_eq_next.1 h
  exact ⟨rfl, fun hne => (extAfter_eq_or s.ext i).resolve_left hne⟩

/-- The sensor after an operation depends on the source through its low byte alone. -/
theorem trsAfter_congr {e e' : Option ExtWord} (h : extByte e = extByte e') (t : Trs) (i : Instr) :
    trsAfter e t i = trsAfter e' t i := by
  have hsample : sampleWord e = sampleWord e' := congrArg (BitVec.setWidth 32) h
  have htick (t : Trs) : onTimerTick e t = onTimerTick e' t := by
    rw [onTimerTick_spec, onTimerTick_spec, hsample]
  cases i with
  | tick => exact htick t
  | timerclk => simp only [trsAfter, timerClock, htick]
  | rdCtrl | rdStatus | rdData | rdInvalid | wrCtrl | wrStatus | wrData | wrInvalid => rfl
  | reset | poweron | save | restore | extset => rfl
  | aEventStartReceive | aEventOther | aTx | aRx | aReset | aPoweron => rfl

/-- The companion device after an operation depends on the source through its low byte alone. -/
theorem arsAfter_congr {e e' : Option ExtWord} (h : extByte e = extByte e') (a : Ars) (i : Instr) :
    arsAfter e a i = arsAfter e' a i := by
  cases i with
  | aEventStartReceive => simp only [arsAfter, refreshData, h]
  | rdCtrl | rdStatus | rdData | rdInvalid | wrCtrl | wrStatus | wrData | wrInvalid => rfl
  | tick | timerclk | reset | poweron | save | restore | extset => rfl
  | aEventOther | aTx | aRx | aReset | aPoweron => rfl

/-- Settles O57: both devices see the low byte of the source alone, and neither the result nor whether an
operation completes depends on it. -/
theorem onlyTheLowByteOfTheSourceIsSeen : Obligations.OnlyTheLowByteOfTheSourceIsSeen := by
  intro i s t v h hlow
  obtain ⟨hcomp, rfl⟩ := exec_eq_next.1 h
  have hbyte : extByte (some v) = extByte s.ext := hlow
  have htrs := trsAfter_congr hbyte s.trs i
  have hcomp' : Completes { s with ext := some v } i := (completes_congr rfl rfl rfl).2 hcomp
  exact ⟨_, exec_of_completes hcomp', htrs, arsAfter_congr hbyte s.ars i, rfl, irq_congr htrs rfl⟩

/-! ### The two devices -/

/-- An operation of the sensor leaves the companion device, and whatever that is, completes alike. -/
theorem exec_device_trs {i : Instr} {s : State} (hdev : i.device = .trs) (hcomp : Completes s i) (a : Ars)
    (l : Bool) : ((after i s).ars = s.ars ∧ (after i s).arsLive = s.arsLive) ∧
      exec i { s with ars := a, arsLive := l } = .next { after i s with ars := a, arsLive := l } := by
  rw [exec_eq_next]
  cases i with
  | rdCtrl | rdStatus | rdData | rdInvalid | wrCtrl | wrStatus | wrData | wrInvalid =>
    exact ⟨⟨rfl, rfl⟩, hcomp, rfl⟩
  | tick | timerclk | reset | poweron | save | restore => exact ⟨⟨rfl, rfl⟩, hcomp, rfl⟩
  | extset | aEventStartReceive | aEventOther | aTx | aRx | aReset | aPoweron => cases hdev

/-- Whatever the sensor is, an operation of the companion device completes alike. -/
theorem exec_device_ars {i : Instr} {s : State} (hdev : i.device = .ars) (hcomp : Completes s i) (a : Trs)
    (l : Bool) : exec i { s with trs := a, trsLive := l } = .next { after i s with trs := a, trsLive := l } := by
  rw [exec_eq_next]
  cases i with
  | aEventStartReceive | aEventOther | aTx | aRx | aReset | aPoweron => exact ⟨hcomp, rfl⟩
  | rdCtrl | rdStatus | rdData | rdInvalid | wrCtrl | wrStatus | wrData | wrInvalid => cases hdev
  | tick | timerclk | reset | poweron | save | restore | extset => cases hdev

/-- Settles O58: each device's operations keep the other and do not read it. -/
theorem theDevicesAreIndependent : Obligations.TheDevicesAreIndependent := by
  intro i s t h
  obtain ⟨hcomp, rfl⟩ := exec_eq_next.1 h
  refine ⟨fun hdev => ?_, fun hdev => ?_⟩
  · obtain ⟨hars, hlive⟩ := (exec_device_trs hdev hcomp s.ars s.arsLive).1
    exact ⟨hars, hlive, fun a l => (exec_device_trs hdev hcomp a l).2⟩
  · obtain ⟨htrs, hlive, -⟩ := keepsSensor_of_device_ars hdev s
    exact ⟨htrs, hlive, exec_device_ars hdev hcomp⟩

end Sys2Proof.Proofs.AllOperations
end

section
/-! The statements about short sequences of the sensor's operations: the pseudo-operations
(`spec/30_encoding.md` R79) and the race table (`spec/60_exceptions.md` R196). -/
namespace Sys2Proof.Proofs.Sequences

open Sys2Proof.Machine
open Sys2Proof.Proofs.Completion
open Sys2Proof.Proofs.Runs
open Sys2Proof.Proofs.Timer
open Sys2Proof.Proofs.Registers (writeCtrl_eq writeCtrl_keeps irqOf_writeCtrl)

/-! ### The pseudo-operations -/

/-- A run of one write of CTRL (R101). -/
theorem runOps_wrCtrl {s : State} (hlive : s.trsLive = true) (v : Word) :
    ∃ t, runOps [.wrCtrl v] s = .next t ∧ t.trs.ctrl = v &&& 0x00000003#32 ∧
      t.trs.timerRunning = v.getLsbD 0 ∧
      t.irq = (v.getLsbD 0 && v.getLsbD 1 && s.trs.status.getLsbD 1) := by
  have htrs : (after (.wrCtrl v) s).trs = _ := writeCtrl_eq v s.trs
  have hirq : (after (.wrCtrl v) s).irq = irqOf (writeCtrl v s.trs) := Exceptions.irq_live hlive
  exact ⟨_, runOps_single rfl hlive, congrArg Trs.ctrl htrs, congrArg Trs.timerRunning htrs,
    hirq.trans (irqOf_writeCtrl v s.trs)⟩

/-- Any number of ticks of a running timer, at least one, are one tick to the sensor. -/
theorem runOps_ticks {s : State} (hlive : s.trsLive = true) (hrun : s.trs.timerRunning = true) (n : Nat) :
    ∃ t, runOps (List.replicate (n + 1) .tick) s = .next t ∧ t.trs = onTimerTick s.ext s.trs := by
  induction n generalizing s with
  | zero => exact ⟨_, runOps_single rfl ⟨hlive, hrun⟩, rfl⟩
  | succ n ih =>
    obtain ⟨t, h, htrs⟩ := ih (s := after .tick s) hlive hrun
    rw [List.replicate_succ, runOps_cons_of_completes (i := .tick) rfl ⟨hlive, hrun⟩]
    exact ⟨t, h, htrs.trans (onTimerTick_onTimerTick s.ext s.trs)⟩

/-- Any number of clocks leave the iterate of the sensor's clock. -/
theorem runOps_clocks {s : State} (hlive : s.trsLive = true) (n : Nat) :
    ∃ t, runOps (List.replicate n .timerclk) s = .next t ∧ t.trs = (timerClock s.ext)^[n] s.trs := by
  induction n generalizing s with
  | zero => exact ⟨_, runOps_nil s, rfl⟩
  | succ n ih =>
    rw [List.replicate_succ, runOps_cons_of_completes (i := .timerclk) rfl hlive]
    exact ih (s := after .timerclk s) hlive

/-- Settles O59: the first three are writes of CTRL, the fourth a write of STATUS, and the other two run ticks
and clocks. -/
theorem pseudoOperationsHaveTheirEffect : Obligations.PseudoOperationsHaveTheirEffect := by
  intro s hlive
  refine ⟨?_, ?_, ?_, ?_, fun hrun n => ?_, fun hrun n hn => ?_, fun hrun hcount k j hj => ?_, fun hstop n => ?_⟩
  · rw [expand_enable]
    exact runOps_wrCtrl hlive 0x00000001#32
  · rw [expand_enableIrq]
    exact runOps_wrCtrl hlive 0x00000003#32
  · rw [expand_disable]
    exact runOps_wrCtrl hlive 0x00000000#32
  · rw [expand_kick]
    exact ⟨_, runOps_single rfl hlive, rfl, rfl⟩
  · rw [← onTimerTick_eq]
    exact runOps_ticks hlive hrun n
  · rw [← iterate_timerClock_lt s.ext hrun hn]
    exact runOps_clocks hlive n
  · rw [← iterate_timerClock_eq s.ext hrun hcount k hj]
    exact runOps_clocks hlive _
  · obtain ⟨t, h, htrs⟩ := runOps_clocks hlive n
    exact ⟨t, h, htrs.trans (iterate_timerClock_stopped s.ext hstop n)⟩

/-! ### The race table -/

/-- A run of two operations that complete one after the other. -/
theorem runOps_pair {i j : Instr} {s : State} (hi : i.wellFormed = true) (hj : j.wellFormed = true)
    (hci : Completes s i) (hcj : Completes (after i s) j) :
    runOps [i, j] s = .next ((after j (after i s)).setSchedule []) := by
  rw [runOps_cons_of_completes hi hci, runOps_single hj hcj]

/-- A run that begins with a tick of a stopped timer has no step (R123). -/
theorem runOps_tick_stopped {s : State} (hlive : s.trsLive = true) (hstop : s.trs.timerRunning = false) :
    runOps [.tick] s = .fault .tickWhileStopped :=
  runOps_cons_fault rfl [] ((exec_tick_fault_iff (s := s.setSchedule []) hlive).2 hstop)

section
variable {s : State} (hlive : s.trsLive = true) (hrun : s.trs.timerRunning = true)
include hlive hrun

/-- A tick and a read of DATA: the new sample if the tick is first, else the old one (R196). -/
theorem race_tick_rdData : ∃ t u, runOps [.tick, .rdData] s = .next t ∧
    t.result = .rdata (s.ext.getD 0#32 &&& 0x000000FF#32) ∧
    runOps [.rdData] s = .next u ∧ u.result = .rdata s.trs.data ∧ ∃ w, runOps [.tick] u = .next w := by
  rw [← sampleWord_eq]
  exact ⟨_, _, runOps_pair rfl rfl ⟨hlive, hrun⟩ hlive, rfl, runOps_single rfl hlive, rfl, _,
    runOps_single rfl ⟨hlive, hrun⟩⟩

/-- The first tick and a read of STATUS: IFG if the tick is first, else 0 (R196). -/
theorem race_tick_rdStatus (hzero : s.trs.status = 0#32) : ∃ t u,
    runOps [.tick, .rdStatus] s = .next t ∧ t.result = .rdata 0x00000002#32 ∧
    runOps [.rdStatus] s = .next u ∧ u.result = .rdata 0x00000000#32 := by
  have hset : (onTimerTick s.ext s.trs).status = 0x00000002#32 := by
    rw [onTimerTick_spec, hzero]
    rfl
  exact ⟨_, _, runOps_pair rfl rfl ⟨hlive, hrun⟩ hlive, congrArg OpResult.rdata hset,
    runOps_single rfl hlive, congrArg OpResult.rdata hzero⟩

/-- A tick and a write that clears EN: with the write first the tick has no step (R123, R196). -/
theorem race_tick_stop {v : Word} (hv : v.getLsbD 0 = false) : ∃ t u,
    runOps [.tick, .wrCtrl v] s = .next t ∧ t.trs.data = s.ext.getD 0#32 &&& 0x000000FF#32 ∧
    t.trs.status.getLsbD 1 = true ∧ t.trs.timerRunning = false ∧
    runOps [.wrCtrl v] s = .next u ∧ u.trs.timerRunning = false ∧ u.trs.data = s.trs.data ∧
    u.trs.status = s.trs.status ∧ runOps [.tick] u = .fault .tickWhileStopped := by
  have hstop (t : Trs) : (writeCtrl v t).timerRunning = false := by rw [writeCtrl_eq, hv]
  obtain ⟨hstatus, hdata⟩ := writeCtrl_keeps v s.trs
  obtain ⟨hstatus', hdata'⟩ := writeCtrl_keeps v (onTimerTick s.ext s.trs)
  refine ⟨_, _, runOps_pair rfl rfl ⟨hlive, hrun⟩ hlive, ?_, ?_, hstop (onTimerTick s.ext s.trs),
    runOps_single rfl hlive, hstop s.trs, hdata, hstatus, runOps_tick_stopped hlive (hstop s.trs)⟩
  · rw [← sampleWord_eq]
    exact hdata'
  · exact (congrArg (BitVec.getLsbD · 1) hstatus').trans (onTimerTick_ifg s.ext s.trs)

/-- A tick and a reset: the registers are 0 after both, and with the reset first the tick has no step (R123,
R196). -/
theorem race_tick_reset : ∃ t u, runOps [.tick, .reset] s = .next t ∧ t.trs.data = 0#32 ∧
    t.trs.status = 0#32 ∧ runOps [.reset] s = .next u ∧ runOps [.tick] u = .fault .tickWhileStopped :=
  ⟨_, _, runOps_pair rfl rfl ⟨hlive, hrun⟩ hlive, rfl, rfl, runOps_single rfl hlive,
    runOps_tick_stopped hlive rfl⟩

/-- The clock that ticks and a save: the new sample if the clock is first, else the old one and the count 1
(R196). -/
theorem race_clock_save (hcount : s.trs.timerCount = 1) : ∃ t u n m,
    runOps [.timerclk, .save] s = .next t ∧ t.result = .snapshot n ∧
    n.x2 = s.ext.getD 0#32 &&& 0x000000FF#32 ∧ runOps [.save] s = .next u ∧ u.result = .snapshot m ∧
    m.x2 = s.trs.data ∧ m.timerCount = 1 := by
  refine ⟨_, _, _, _, runOps_pair rfl rfl hlive hlive, rfl, ?_, runOps_single rfl hlive, rfl, rfl, hcount⟩
  rw [← sampleWord_eq]
  exact congrArg Trs.data (timerClock_one s.ext hrun hcount)

end

/-- Settles O60: the table, row by row. -/
theorem racesWithATick : Obligations.RacesWithATick :=
  fun _ _ hlive hrun => ⟨race_tick_rdData hlive hrun, race_tick_rdStatus hlive hrun,
    race_tick_stop hlive hrun, race_tick_reset hlive hrun, race_clock_save hlive hrun⟩

end Sys2Proof.Proofs.Sequences
end
